-- ==== Sys2Proof/Word.lean ====
section
/-! DEFINITION. The word types of the model: plain fixed-width bit vectors. -/

namespace Sys2Proof

/-- One byte of memory (R60). -/
abbrev Byte := BitVec 8

/-- One integer register, program counter or address: 64 bits, of which an RV32 machine uses the
low 32 (R20, R25). The unused high bits of an RV32 value are zero. -/
abbrev Word := BitVec 64

/-- One floating-point register: 128 bits, of which `FLEN` are used (R40). -/
abbrev FWord := BitVec 128

/-- The number of an integer or floating-point register, a five-bit field (R99). -/
abbrev RegIdx := BitVec 5

/-- A three-bit register field `rd'`, `rs1'`, `rs2'` of a compressed instruction (R122). -/
abbrev RegIdx3 := BitVec 3

/-- The register a three-bit field denotes: `x8` to `x15`, or `f8` to `f15` (R24). -/
def wideReg (r : RegIdx3) : RegIdx := 8#5 + r.setWidth 5

end Sys2Proof
end

