-- ==== Sys2Proof/Config.lean ====
section
/-! DEFINITION. The parameters of the hardware family (R9), plain data fixed for a run (R47), and the
free values the spec leaves to the host (`draw`, R13), which are constants without a body. -/

namespace Sys2Proof

/-- The register width `XLEN` (R9, D1). 128 is refused at launch (R515). -/
inductive Xlen where
  | rv32
  | rv64
deriving DecidableEq, Repr

/-- `XLEN` in bits. -/
def Xlen.bits : Xlen → Nat
  | .rv32 => 32
  | .rv64 => 64

/-- A letter of the extension set `EXT` (R5, R9). -/
inductive Letter where
  | M | A | F | D | Q | C
deriving DecidableEq, Repr

/-- The extension set `EXT` beside I (R5, R9). -/
structure ExtSet where
  m : Bool
  a : Bool
  f : Bool
  d : Bool
  q : Bool
  c : Bool
deriving DecidableEq, Repr

/-- Whether a letter is in `EXT`. -/
def ExtSet.has (e : ExtSet) : Letter → Bool
  | .M => e.m
  | .A => e.a
  | .F => e.f
  | .D => e.d
  | .Q => e.q
  | .C => e.c

/-- `D` requires `F` and `Q` requires `D` (R5). -/
def ExtSet.closed (e : ExtSet) : Bool := (!e.d || e.f) && (!e.q || e.d)

/-- `MISALIGNED`: what a data access not aligned to its size does (R64, D4). -/
inductive MisalignedMode where
  | trap
  | split
deriving DecidableEq, Repr

/-- `FMINMAX`: which edition's FMIN/FMAX rule applies (R485, D16). -/
inductive FMinMaxRule where
  | v20
  | v22
deriving DecidableEq, Repr

/-- `NANBOX`: how a value narrower than `FLEN` lies in an f register (R41, D16). -/
inductive NanBoxRule where
  | boxed
  | unspecifiedUpper
deriving DecidableEq, Repr

/-- `WFI_MODE`: what WFI does (R233, D17). -/
inductive WfiMode where
  | refuse
  | nop
deriving DecidableEq, Repr

/-- `OFFCARD`: whether the standard instructions the card omits are decoded (R132, D18). -/
inductive OffCard where
  | on
  | off
deriving DecidableEq, Repr

/-- A part of `MemMap` (R70): the addresses `base` to `base + size - 1` with their permissions. -/
structure Region where
  base : Nat
  size : Nat
  read : Bool
  write : Bool
  execute : Bool
deriving DecidableEq, Repr

/-- An entry of `CsrExtra` (R32, D12): a CSR beyond R33's, modelled as plain storage whose bits
outside `mask` read as zero and ignore writes. -/
structure ExtraCsr where
  number : BitVec 12
  mask : Word
deriving DecidableEq, Repr

/-- The open parameters of R9. `FLEN` and `IALIGN` are derived below, `NHARTS` is 1, and
`CycleSource` and `TimeSource` are the draws at the end of this file. -/
structure Config where
  xlen : Xlen
  ext : ExtSet
  memMap : List Region
  resetPc : Word
  misaligned : MisalignedMode
  csrExtra : List ExtraCsr
  resGran : Nat
  fMinMax : FMinMaxRule
  nanBox : NanBoxRule
  wfiMode : WfiMode
  offCard : OffCard
deriving DecidableEq, Repr

/-- `FLEN`: 32 with F alone, 64 with D, 128 with Q (R40). -/
def Config.flen (c : Config) : Nat :=
  if c.ext.q then 128 else if c.ext.d then 64 else 32

/-- `IALIGN/8`: 2 bytes with C, else 4 (R9, R27). -/
def Config.ialignBytes (c : Config) : Nat := if c.ext.c then 2 else 4

/-- The parameters `State.reset` takes where the spec leaves them open (DESIGN CHOICE, log entry 2):
RV64 with every extension, one region of plain memory over the whole address space, and for the
rest the default of R9, but for `WFI_MODE`, which is `nop`. -/
def Config.standard : Config where
  xlen := .rv64
  ext := { m := true, a := true, f := true, d := true, q := true, c := true }
  memMap := [{ base := 0, size := 2 ^ 64, read := true, write := true, execute := true }]
  resetPc := 0x80000000#64
  misaligned := .trap
  csrExtra := []
  resGran := 1
  fMinMax := .v20
  nanBox := .boxed
  wfiMode := .nop
  offCard := .on

/-- Free value: the host's draw for a read of `cycle` (R34, D13), by draw number. -/
opaque Config.cycleDraw : Nat → BitVec 64

/-- Free value: the host's draw for a read of `time` (R35, D13), by draw number. -/
opaque Config.timeDraw : Nat → BitVec 64

/-- Free value: whether a store-conditional with a valid reservation succeeds (R343, D15), by draw
number. -/
opaque Config.scDraw : Nat → Bool

/-- Free value: the bits above a narrower value in an f register under `NANBOX =
unspecified-upper` (R41, D16), by draw number; the write uses the bits above the value. -/
opaque Config.upperDraw : Nat → BitVec 128

/-- Free value: which of the two zeros FMIN or FMAX of -0 and +0 returns under `FMINMAX = v20`
(R485, D16), by draw number; `true` is the operand in `rs1`. -/
opaque Config.zeroDraw : Nat → Bool

end Sys2Proof
end

