-- ==== Sys2Proof/Syntax.lean ====
section
/-! DEFINITION. The syntax: one constructor per mnemonic of spec/opcode_table.json, its operands as
the spec's encodings carry them (R92 to R107, R121). An immediate is held at its full scaled width,
low zero bits included (a branch offset is 13 bits with bit 0 zero); LUI, AUIPC and C.LUI hold the
field itself. A row whose table entry has `alias_of` keeps a constructor of its own; the decoder
never answers it (R100, R128). -/

namespace Sys2Proof

/-- An instruction, as decoded; the operands in the card's order (R126). -/
inductive Instr where
  -- Base integer (40_base_integer.md)
  /-- LB (R144). -/
  | lb (rd rs1 : RegIdx) (imm : BitVec 12)
  /-- LH (R145). -/
  | lh (rd rs1 : RegIdx) (imm : BitVec 12)
  /-- LW (R146). -/
  | lw (rd rs1 : RegIdx) (imm : BitVec 12)
  /-- LBU (R147). -/
  | lbu (rd rs1 : RegIdx) (imm : BitVec 12)
  /-- LHU (R148). -/
  | lhu (rd rs1 : RegIdx) (imm : BitVec 12)
  /-- LD (R149). -/
  | ld (rd rs1 : RegIdx) (imm : BitVec 12)
  /-- LWU (R150). -/
  | lwu (rd rs1 : RegIdx) (imm : BitVec 12)
  /-- SB (R151). -/
  | sb (rs1 rs2 : RegIdx) (imm : BitVec 12)
  /-- SH (R152). -/
  | sh (rs1 rs2 : RegIdx) (imm : BitVec 12)
  /-- SW (R153). -/
  | sw (rs1 rs2 : RegIdx) (imm : BitVec 12)
  /-- SD (R154). -/
  | sd (rs1 rs2 : RegIdx) (imm : BitVec 12)
  /-- SLL (R155). -/
  | sll (rd rs1 rs2 : RegIdx)
  /-- SLLI (R156). -/
  | slli (rd rs1 : RegIdx) (shamt : BitVec 6)
  /-- SRL (R157). -/
  | srl (rd rs1 rs2 : RegIdx)
  /-- SRLI (R158). -/
  | srli (rd rs1 : RegIdx) (shamt : BitVec 6)
  /-- SRA (R159). -/
  | sra (rd rs1 rs2 : RegIdx)
  /-- SRAI (R160). -/
  | srai (rd rs1 : RegIdx) (shamt : BitVec 6)
  /-- SLLW (R161). -/
  | sllw (rd rs1 rs2 : RegIdx)
  /-- SLLIW (R162). -/
  | slliw (rd rs1 : RegIdx) (shamt : BitVec 5)
  /-- SRLW (R163). -/
  | srlw (rd rs1 rs2 : RegIdx)
  /-- SRLIW (R164). -/
  | srliw (rd rs1 : RegIdx) (shamt : BitVec 5)
  /-- SRAW (R165). -/
  | sraw (rd rs1 rs2 : RegIdx)
  /-- SRAIW (R166). -/
  | sraiw (rd rs1 : RegIdx) (shamt : BitVec 5)
  /-- ADD (R167). -/
  | add (rd rs1 rs2 : RegIdx)
  /-- ADDI (R168). -/
  | addi (rd rs1 : RegIdx) (imm : BitVec 12)
  /-- SUB (R169). -/
  | sub (rd rs1 rs2 : RegIdx)
  /-- ADDW (R170). -/
  | addw (rd rs1 rs2 : RegIdx)
  /-- ADDIW (R171). -/
  | addiw (rd rs1 : RegIdx) (imm : BitVec 12)
  /-- SUBW (R172). -/
  | subw (rd rs1 rs2 : RegIdx)
  /-- LUI (R173). -/
  | lui (rd : RegIdx) (imm : BitVec 20)
  /-- AUIPC (R174). -/
  | auipc (rd : RegIdx) (imm : BitVec 20)
  /-- XOR (R175). -/
  | xor (rd rs1 rs2 : RegIdx)
  /-- XORI (R176). -/
  | xori (rd rs1 : RegIdx) (imm : BitVec 12)
  /-- OR (R177). -/
  | or (rd rs1 rs2 : RegIdx)
  /-- ORI (R178). -/
  | ori (rd rs1 : RegIdx) (imm : BitVec 12)
  /-- AND (R179). -/
  | and (rd rs1 rs2 : RegIdx)
  /-- ANDI (R180). -/
  | andi (rd rs1 : RegIdx) (imm : BitVec 12)
  /-- SLT (R181). -/
  | slt (rd rs1 rs2 : RegIdx)
  /-- SLTI (R182). -/
  | slti (rd rs1 : RegIdx) (imm : BitVec 12)
  /-- SLTU (R183). -/
  | sltu (rd rs1 rs2 : RegIdx)
  /-- SLTIU (R184). -/
  | sltiu (rd rs1 : RegIdx) (imm : BitVec 12)
  /-- BEQ (R185). -/
  | beq (rs1 rs2 : RegIdx) (imm : BitVec 13)
  /-- BNE (R186). -/
  | bne (rs1 rs2 : RegIdx) (imm : BitVec 13)
  /-- BLT (R187). -/
  | blt (rs1 rs2 : RegIdx) (imm : BitVec 13)
  /-- BGE (R188). -/
  | bge (rs1 rs2 : RegIdx) (imm : BitVec 13)
  /-- BLTU (R189). -/
  | bltu (rs1 rs2 : RegIdx) (imm : BitVec 13)
  /-- BGEU (R190). -/
  | bgeu (rs1 rs2 : RegIdx) (imm : BitVec 13)
  /-- JAL (R191). -/
  | jal (rd : RegIdx) (imm : BitVec 21)
  /-- JALR (R192). -/
  | jalr (rd rs1 : RegIdx) (imm : BitVec 12)
  /-- FENCE (R193). -/
  | fence (pred succ ign1 : BitVec 4) (ign2 ign3 : BitVec 5)
  /-- FENCE.I (R194). -/
  | fenceI (ign1 : BitVec 12) (ign2 ign3 : BitVec 5)
  /-- RDCYCLE (R197; a name of CSRRS). -/
  | rdcycle (rd : RegIdx)
  /-- RDCYCLEH (R198; a name of CSRRS). -/
  | rdcycleh (rd : RegIdx)
  /-- RDTIME (R199; a name of CSRRS). -/
  | rdtime (rd : RegIdx)
  /-- RDTIMEH (R200; a name of CSRRS). -/
  | rdtimeh (rd : RegIdx)
  /-- RDINSTRET (R201; a name of CSRRS). -/
  | rdinstret (rd : RegIdx)
  /-- RDINSTRETH (R202; a name of CSRRS). -/
  | rdinstreth (rd : RegIdx)
  -- Privileged and CSR (41_privileged_instructions.md)
  /-- CSRRW (R221). -/
  | csrrw (rd : RegIdx) (csr : BitVec 12) (rs1 : RegIdx)
  /-- CSRRS (R222). -/
  | csrrs (rd : RegIdx) (csr : BitVec 12) (rs1 : RegIdx)
  /-- CSRRC (R223). -/
  | csrrc (rd : RegIdx) (csr : BitVec 12) (rs1 : RegIdx)
  /-- CSRRWI (R224). -/
  | csrrwi (rd : RegIdx) (csr : BitVec 12) (zimm : BitVec 5)
  /-- CSRRSI (R225). -/
  | csrrsi (rd : RegIdx) (csr : BitVec 12) (zimm : BitVec 5)
  /-- CSRRCI (R226). -/
  | csrrci (rd : RegIdx) (csr : BitVec 12) (zimm : BitVec 5)
  /-- SFENCE.VM (R234). -/
  | sfenceVm (rs1 : RegIdx)
  -- Compressed (42_compressed.md)
  /-- C.LW (R254). -/
  | cLw (rd rs1 : RegIdx3) (uimm : BitVec 7)
  /-- C.LWSP (R255). -/
  | cLwsp (rd : RegIdx) (uimm : BitVec 8)
  /-- C.LD (R256). -/
  | cLd (rd rs1 : RegIdx3) (uimm : BitVec 8)
  /-- C.LDSP (R257). -/
  | cLdsp (rd : RegIdx) (uimm : BitVec 9)
  /-- C.SW (R258). -/
  | cSw (rs1 rs2 : RegIdx3) (uimm : BitVec 7)
  /-- C.SWSP (R259). -/
  | cSwsp (rs2 : RegIdx) (uimm : BitVec 8)
  /-- C.SD (R260). -/
  | cSd (rs1 rs2 : RegIdx3) (uimm : BitVec 8)
  /-- C.SDSP (R261). -/
  | cSdsp (rs2 : RegIdx) (uimm : BitVec 9)
  /-- C.ADD (R262). -/
  | cAdd (rd rs2 : RegIdx)
  /-- C.ADDW (R263). -/
  | cAddw (rd rs2 : RegIdx3)
  /-- C.ADDI (R264). -/
  | cAddi (rd : RegIdx) (imm : BitVec 6)
  /-- C.ADDIW (R265). -/
  | cAddiw (rd : RegIdx) (imm : BitVec 6)
  /-- C.ADDI16SP (R266). -/
  | cAddi16sp (imm : BitVec 10)
  /-- C.ADDI4SPN (R267). -/
  | cAddi4spn (rd : RegIdx3) (uimm : BitVec 10)
  /-- C.LI (R268). -/
  | cLi (rd : RegIdx) (imm : BitVec 6)
  /-- C.LUI (R269). -/
  | cLui (rd : RegIdx) (imm : BitVec 6)
  /-- C.MV (R270). -/
  | cMv (rd rs2 : RegIdx)
  /-- C.SUB (R271). -/
  | cSub (rd rs2 : RegIdx3)
  /-- C.SLLI (R272). -/
  | cSlli (rd : RegIdx) (shamt : BitVec 6)
  /-- C.BEQZ (R273). -/
  | cBeqz (rs1 : RegIdx3) (imm : BitVec 9)
  /-- C.BNEZ (R274). -/
  | cBnez (rs1 : RegIdx3) (imm : BitVec 9)
  /-- C.J (R275). -/
  | cJ (imm : BitVec 12)
  /-- C.JR (R276). -/
  | cJr (rs1 : RegIdx)
  /-- C.JAL (R277). -/
  | cJal (imm : BitVec 12)
  /-- C.JALR (R278). -/
  | cJalr (rs1 : RegIdx)
  /-- C.SRLI (R281). -/
  | cSrli (rd : RegIdx3) (shamt : BitVec 6)
  /-- C.SRAI (R282). -/
  | cSrai (rd : RegIdx3) (shamt : BitVec 6)
  /-- C.ANDI (R283). -/
  | cAndi (rd : RegIdx3) (imm : BitVec 6)
  /-- C.XOR (R284). -/
  | cXor (rd rs2 : RegIdx3)
  /-- C.OR (R285). -/
  | cOr (rd rs2 : RegIdx3)
  /-- C.AND (R286). -/
  | cAnd (rd rs2 : RegIdx3)
  /-- C.SUBW (R287). -/
  | cSubw (rd rs2 : RegIdx3)
  /-- C.FLW (R288). -/
  | cFlw (rd rs1 : RegIdx3) (uimm : BitVec 7)
  /-- C.FLWSP (R289). -/
  | cFlwsp (rd : RegIdx) (uimm : BitVec 8)
  /-- C.FSW (R290). -/
  | cFsw (rs1 rs2 : RegIdx3) (uimm : BitVec 7)
  /-- C.FSWSP (R291). -/
  | cFswsp (rs2 : RegIdx) (uimm : BitVec 8)
  /-- C.FLD (R292). -/
  | cFld (rd rs1 : RegIdx3) (uimm : BitVec 8)
  /-- C.FLDSP (R293). -/
  | cFldsp (rd : RegIdx) (uimm : BitVec 9)
  /-- C.FSD (R294). -/
  | cFsd (rs1 rs2 : RegIdx3) (uimm : BitVec 8)
  /-- C.FSDSP (R295). -/
  | cFsdsp (rs2 : RegIdx) (uimm : BitVec 9)
  -- M (43_muldiv.md)
  /-- MUL (R322). -/
  | mul (rd rs1 rs2 : RegIdx)
  /-- MULH (R323). -/
  | mulh (rd rs1 rs2 : RegIdx)
  /-- MULHSU (R324). -/
  | mulhsu (rd rs1 rs2 : RegIdx)
  /-- MULHU (R325). -/
  | mulhu (rd rs1 rs2 : RegIdx)
  /-- DIV (R326). -/
  | div (rd rs1 rs2 : RegIdx)
  /-- DIVU (R327). -/
  | divu (rd rs1 rs2 : RegIdx)
  /-- REM (R328). -/
  | rem (rd rs1 rs2 : RegIdx)
  /-- REMU (R329). -/
  | remu (rd rs1 rs2 : RegIdx)
  /-- MULW (R330). -/
  | mulw (rd rs1 rs2 : RegIdx)
  /-- DIVW (R331). -/
  | divw (rd rs1 rs2 : RegIdx)
  /-- DIVUW (R332). -/
  | divuw (rd rs1 rs2 : RegIdx)
  /-- REMW (R333). -/
  | remw (rd rs1 rs2 : RegIdx)
  /-- REMUW (R334). -/
  | remuw (rd rs1 rs2 : RegIdx)
  -- A (44_atomic.md)
  /-- LR.W (R342). -/
  | lrW (rd rs1 : RegIdx) (aq rl : BitVec 1)
  /-- SC.W (R343). -/
  | scW (rd rs1 rs2 : RegIdx) (aq rl : BitVec 1)
  /-- AMOSWAP.W (R344). -/
  | amoswapW (rd rs1 rs2 : RegIdx) (aq rl : BitVec 1)
  /-- AMOADD.W (R345). -/
  | amoaddW (rd rs1 rs2 : RegIdx) (aq rl : BitVec 1)
  /-- AMOXOR.W (R346). -/
  | amoxorW (rd rs1 rs2 : RegIdx) (aq rl : BitVec 1)
  /-- AMOAND.W (R347). -/
  | amoandW (rd rs1 rs2 : RegIdx) (aq rl : BitVec 1)
  /-- AMOOR.W (R348). -/
  | amoorW (rd rs1 rs2 : RegIdx) (aq rl : BitVec 1)
  /-- AMOMIN.W (R349). -/
  | amominW (rd rs1 rs2 : RegIdx) (aq rl : BitVec 1)
  /-- AMOMAX.W (R350). -/
  | amomaxW (rd rs1 rs2 : RegIdx) (aq rl : BitVec 1)
  /-- AMOMINU.W (R351). -/
  | amominuW (rd rs1 rs2 : RegIdx) (aq rl : BitVec 1)
  /-- AMOMAXU.W (R352). -/
  | amomaxuW (rd rs1 rs2 : RegIdx) (aq rl : BitVec 1)
  /-- LR.D (R353). -/
  | lrD (rd rs1 : RegIdx) (aq rl : BitVec 1)
  /-- SC.D (R354). -/
  | scD (rd rs1 rs2 : RegIdx) (aq rl : BitVec 1)
  /-- AMOSWAP.D (R355). -/
  | amoswapD (rd rs1 rs2 : RegIdx) (aq rl : BitVec 1)
  /-- AMOADD.D (R356). -/
  | amoaddD (rd rs1 rs2 : RegIdx) (aq rl : BitVec 1)
  /-- AMOXOR.D (R357). -/
  | amoxorD (rd rs1 rs2 : RegIdx) (aq rl : BitVec 1)
  /-- AMOAND.D (R358). -/
  | amoandD (rd rs1 rs2 : RegIdx) (aq rl : BitVec 1)
  /-- AMOOR.D (R359). -/
  | amoorD (rd rs1 rs2 : RegIdx) (aq rl : BitVec 1)
  /-- AMOMIN.D (R360). -/
  | amominD (rd rs1 rs2 : RegIdx) (aq rl : BitVec 1)
  /-- AMOMAX.D (R361). -/
  | amomaxD (rd rs1 rs2 : RegIdx) (aq rl : BitVec 1)
  /-- AMOMINU.D (R362). -/
  | amominuD (rd rs1 rs2 : RegIdx) (aq rl : BitVec 1)
  /-- AMOMAXU.D (R363). -/
  | amomaxuD (rd rs1 rs2 : RegIdx) (aq rl : BitVec 1)
  -- Floating-point moves, memory and conversions (45_float_move_convert_mem.md)
  /-- FMV.S.X (R373). -/
  | fmvSX (rd rs1 : RegIdx)
  /-- FMV.X.S (R374). -/
  | fmvXS (rd rs1 : RegIdx)
  /-- FMV.D.X (R375). -/
  | fmvDX (rd rs1 : RegIdx)
  /-- FMV.X.D (R376). -/
  | fmvXD (rd rs1 : RegIdx)
  /-- FLW (R380). -/
  | flw (rd rs1 : RegIdx) (imm : BitVec 12)
  /-- FSW (R381). -/
  | fsw (rs1 rs2 : RegIdx) (imm : BitVec 12)
  /-- FLD (R382). -/
  | fld (rd rs1 : RegIdx) (imm : BitVec 12)
  /-- FSD (R383). -/
  | fsd (rs1 rs2 : RegIdx) (imm : BitVec 12)
  /-- FLQ (R384). -/
  | flq (rd rs1 : RegIdx) (imm : BitVec 12)
  /-- FSQ (R385). -/
  | fsq (rs1 rs2 : RegIdx) (imm : BitVec 12)
  /-- FCVT.S.W (R386). -/
  | fcvtSW (rd rs1 : RegIdx) (rm : BitVec 3)
  /-- FCVT.D.W (R387). -/
  | fcvtDW (rd rs1 : RegIdx) (rm : BitVec 3)
  /-- FCVT.Q.W (R388). -/
  | fcvtQW (rd rs1 : RegIdx) (rm : BitVec 3)
  /-- FCVT.S.WU (R389). -/
  | fcvtSWU (rd rs1 : RegIdx) (rm : BitVec 3)
  /-- FCVT.D.WU (R390). -/
  | fcvtDWU (rd rs1 : RegIdx) (rm : BitVec 3)
  /-- FCVT.Q.WU (R391). -/
  | fcvtQWU (rd rs1 : RegIdx) (rm : BitVec 3)
  /-- FCVT.S.L (R392). -/
  | fcvtSL (rd rs1 : RegIdx) (rm : BitVec 3)
  /-- FCVT.D.L (R393). -/
  | fcvtDL (rd rs1 : RegIdx) (rm : BitVec 3)
  /-- FCVT.Q.L (R394). -/
  | fcvtQL (rd rs1 : RegIdx) (rm : BitVec 3)
  /-- FCVT.S.LU (R395). -/
  | fcvtSLU (rd rs1 : RegIdx) (rm : BitVec 3)
  /-- FCVT.D.LU (R396). -/
  | fcvtDLU (rd rs1 : RegIdx) (rm : BitVec 3)
  /-- FCVT.Q.LU (R397). -/
  | fcvtQLU (rd rs1 : RegIdx) (rm : BitVec 3)
  /-- FCVT.W.S (R398). -/
  | fcvtWS (rd rs1 : RegIdx) (rm : BitVec 3)
  /-- FCVT.W.D (R399). -/
  | fcvtWD (rd rs1 : RegIdx) (rm : BitVec 3)
  /-- FCVT.W.Q (R400). -/
  | fcvtWQ (rd rs1 : RegIdx) (rm : BitVec 3)
  /-- FCVT.WU.S (R401). -/
  | fcvtWUS (rd rs1 : RegIdx) (rm : BitVec 3)
  /-- FCVT.WU.D (R402). -/
  | fcvtWUD (rd rs1 : RegIdx) (rm : BitVec 3)
  /-- FCVT.WU.Q (R403). -/
  | fcvtWUQ (rd rs1 : RegIdx) (rm : BitVec 3)
  /-- FCVT.L.S (R404). -/
  | fcvtLS (rd rs1 : RegIdx) (rm : BitVec 3)
  /-- FCVT.L.D (R405). -/
  | fcvtLD (rd rs1 : RegIdx) (rm : BitVec 3)
  /-- FCVT.L.Q (R406). -/
  | fcvtLQ (rd rs1 : RegIdx) (rm : BitVec 3)
  /-- FCVT.LU.S (R407). -/
  | fcvtLUS (rd rs1 : RegIdx) (rm : BitVec 3)
  /-- FCVT.LU.D (R408). -/
  | fcvtLUD (rd rs1 : RegIdx) (rm : BitVec 3)
  /-- FCVT.LU.Q (R409). -/
  | fcvtLUQ (rd rs1 : RegIdx) (rm : BitVec 3)
  /-- FCVT.S.D (R410). -/
  | fcvtSD (rd rs1 : RegIdx) (rm : BitVec 3)
  /-- FCVT.D.S (R411). -/
  | fcvtDS (rd rs1 : RegIdx) (rm : BitVec 3)
  /-- FCVT.S.Q (R412). -/
  | fcvtSQ (rd rs1 : RegIdx) (rm : BitVec 3)
  /-- FCVT.Q.S (R413). -/
  | fcvtQS (rd rs1 : RegIdx) (rm : BitVec 3)
  /-- FCVT.D.Q (R414). -/
  | fcvtDQ (rd rs1 : RegIdx) (rm : BitVec 3)
  /-- FCVT.Q.D (R415). -/
  | fcvtQD (rd rs1 : RegIdx) (rm : BitVec 3)
  -- Floating-point arithmetic, comparison and configuration (46_float_arith_compare_config.md)
  /-- FADD.S (R423). -/
  | faddS (rd rs1 rs2 : RegIdx) (rm : BitVec 3)
  /-- FADD.D (R424). -/
  | faddD (rd rs1 rs2 : RegIdx) (rm : BitVec 3)
  /-- FADD.Q (R425). -/
  | faddQ (rd rs1 rs2 : RegIdx) (rm : BitVec 3)
  /-- FSUB.S (R426). -/
  | fsubS (rd rs1 rs2 : RegIdx) (rm : BitVec 3)
  /-- FSUB.D (R427). -/
  | fsubD (rd rs1 rs2 : RegIdx) (rm : BitVec 3)
  /-- FSUB.Q (R428). -/
  | fsubQ (rd rs1 rs2 : RegIdx) (rm : BitVec 3)
  /-- FMUL.S (R429). -/
  | fmulS (rd rs1 rs2 : RegIdx) (rm : BitVec 3)
  /-- FMUL.D (R430). -/
  | fmulD (rd rs1 rs2 : RegIdx) (rm : BitVec 3)
  /-- FMUL.Q (R431). -/
  | fmulQ (rd rs1 rs2 : RegIdx) (rm : BitVec 3)
  /-- FDIV.S (R432). -/
  | fdivS (rd rs1 rs2 : RegIdx) (rm : BitVec 3)
  /-- FDIV.D (R433). -/
  | fdivD (rd rs1 rs2 : RegIdx) (rm : BitVec 3)
  /-- FDIV.Q (R434). -/
  | fdivQ (rd rs1 rs2 : RegIdx) (rm : BitVec 3)
  /-- FSQRT.S (R435). -/
  | fsqrtS (rd rs1 : RegIdx) (rm : BitVec 3)
  /-- FSQRT.D (R436). -/
  | fsqrtD (rd rs1 : RegIdx) (rm : BitVec 3)
  /-- FSQRT.Q (R437). -/
  | fsqrtQ (rd rs1 : RegIdx) (rm : BitVec 3)
  /-- FMADD.S (R438). -/
  | fmaddS (rd rs1 rs2 rs3 : RegIdx) (rm : BitVec 3)
  /-- FMADD.D (R439). -/
  | fmaddD (rd rs1 rs2 rs3 : RegIdx) (rm : BitVec 3)
  /-- FMADD.Q (R440). -/
  | fmaddQ (rd rs1 rs2 rs3 : RegIdx) (rm : BitVec 3)
  /-- FMSUB.S (R441). -/
  | fmsubS (rd rs1 rs2 rs3 : RegIdx) (rm : BitVec 3)
  /-- FMSUB.D (R442). -/
  | fmsubD (rd rs1 rs2 rs3 : RegIdx) (rm : BitVec 3)
  /-- FMSUB.Q (R443). -/
  | fmsubQ (rd rs1 rs2 rs3 : RegIdx) (rm : BitVec 3)
  /-- FNMSUB.S (R444). -/
  | fnmsubS (rd rs1 rs2 rs3 : RegIdx) (rm : BitVec 3)
  /-- FNMSUB.D (R445). -/
  | fnmsubD (rd rs1 rs2 rs3 : RegIdx) (rm : BitVec 3)
  /-- FNMSUB.Q (R446). -/
  | fnmsubQ (rd rs1 rs2 rs3 : RegIdx) (rm : BitVec 3)
  /-- FNMADD.S (R447). -/
  | fnmaddS (rd rs1 rs2 rs3 : RegIdx) (rm : BitVec 3)
  /-- FNMADD.D (R448). -/
  | fnmaddD (rd rs1 rs2 rs3 : RegIdx) (rm : BitVec 3)
  /-- FNMADD.Q (R449). -/
  | fnmaddQ (rd rs1 rs2 rs3 : RegIdx) (rm : BitVec 3)
  /-- FSGNJ.S (R450). -/
  | fsgnjS (rd rs1 rs2 : RegIdx)
  /-- FSGNJ.D (R451). -/
  | fsgnjD (rd rs1 rs2 : RegIdx)
  /-- FSGNJ.Q (R452). -/
  | fsgnjQ (rd rs1 rs2 : RegIdx)
  /-- FSGNJN.S (R453). -/
  | fsgnjnS (rd rs1 rs2 : RegIdx)
  /-- FSGNJN.D (R454). -/
  | fsgnjnD (rd rs1 rs2 : RegIdx)
  /-- FSGNJN.Q (R455). -/
  | fsgnjnQ (rd rs1 rs2 : RegIdx)
  /-- FSGNJX.S (R456). -/
  | fsgnjxS (rd rs1 rs2 : RegIdx)
  /-- FSGNJX.D (R457). -/
  | fsgnjxD (rd rs1 rs2 : RegIdx)
  /-- FSGNJX.Q (R458). -/
  | fsgnjxQ (rd rs1 rs2 : RegIdx)
  /-- FMIN.S (R459). -/
  | fminS (rd rs1 rs2 : RegIdx)
  /-- FMIN.D (R460). -/
  | fminD (rd rs1 rs2 : RegIdx)
  /-- FMIN.Q (R461). -/
  | fminQ (rd rs1 rs2 : RegIdx)
  /-- FMAX.S (R462). -/
  | fmaxS (rd rs1 rs2 : RegIdx)
  /-- FMAX.D (R463). -/
  | fmaxD (rd rs1 rs2 : RegIdx)
  /-- FMAX.Q (R464). -/
  | fmaxQ (rd rs1 rs2 : RegIdx)
  /-- FEQ.S (R465). -/
  | feqS (rd rs1 rs2 : RegIdx)
  /-- FEQ.D (R466). -/
  | feqD (rd rs1 rs2 : RegIdx)
  /-- FEQ.Q (R467). -/
  | feqQ (rd rs1 rs2 : RegIdx)
  /-- FLT.S (R468). -/
  | fltS (rd rs1 rs2 : RegIdx)
  /-- FLT.D (R469). -/
  | fltD (rd rs1 rs2 : RegIdx)
  /-- FLT.Q (R470). -/
  | fltQ (rd rs1 rs2 : RegIdx)
  /-- FLE.S (R471). -/
  | fleS (rd rs1 rs2 : RegIdx)
  /-- FLE.D (R472). -/
  | fleD (rd rs1 rs2 : RegIdx)
  /-- FLE.Q (R473). -/
  | fleQ (rd rs1 rs2 : RegIdx)
  /-- FCLASS.S (R474). -/
  | fclassS (rd rs1 : RegIdx)
  /-- FCLASS.D (R475). -/
  | fclassD (rd rs1 : RegIdx)
  /-- FCLASS.Q (R476). -/
  | fclassQ (rd rs1 : RegIdx)
  /-- FRCSR (R477; a name of CSRRS). -/
  | frcsr (rd : RegIdx)
  /-- FRRM (R478; a name of CSRRS). -/
  | frrm (rd : RegIdx)
  /-- FRFLAGS (R479; a name of CSRRS). -/
  | frflags (rd : RegIdx)
  /-- FSCSR (R480; a name of CSRRW). -/
  | fscsr (rd rs1 : RegIdx)
  /-- FSRM (R481; a name of CSRRW). -/
  | fsrm (rd rs1 : RegIdx)
  /-- FSFLAGS (R482; a name of CSRRW). -/
  | fsflags (rd rs1 : RegIdx)
  /-- FSRMI (R483; a name of CSRRWI). -/
  | fsrmi (rd : RegIdx) (zimm : BitVec 5)
  /-- FSFLAGSI (R484; a name of CSRRWI). -/
  | fsflagsi (rd : RegIdx) (zimm : BitVec 5)
  -- Instructions without operands, of all families. They stand last because the compiler allows an
  -- operand-carrying constructor no number above 243.
  /-- SCALL (R195). -/
  | scall
  /-- SBREAK (R196). -/
  | sbreak
  /-- ECALL (R227; a name of SCALL). -/
  | ecall
  /-- EBREAK (R228; a name of SBREAK). -/
  | ebreak
  /-- ERET (R229). -/
  | eret
  /-- MRTS (R230). -/
  | mrts
  /-- MRTH (R231). -/
  | mrth
  /-- HRTS (R232). -/
  | hrts
  /-- WFI (R233). -/
  | wfi
  /-- C.EBREAK (R279). -/
  | cEbreak
  /-- C.NOP (R280; a name of C.ADDI). -/
  | cNop
deriving DecidableEq, Repr

end Sys2Proof
end

