-- ==== Sys2Proof/WellFormed.lean ====
section
/-! DEFINITION. Well-formedness: the columns of spec/opcode_table.json that R100 checks beside the
bits (`xlen`, `ext`, `constraints`, `on_card`), and the low zero bits of scaled immediates. -/

namespace Sys2Proof

/-- The widths at which a row exists (the `xlen` column). -/
inductive Widths where
  | both
  | only32
  | only64
deriving DecidableEq, Repr

/-- Whether a row exists at a width. -/
def Widths.has : Widths → Xlen → Bool
  | .both, _ => true
  | .only32, x => x == .rv32
  | .only64, x => x == .rv64

/-- What the table demands of an instruction beside its bits. -/
structure Row where
  /-- the `xlen` column -/
  widths : Widths
  /-- the `ext` column, I left out -/
  ext : List Letter
  /-- the `on_card` column, as ruling C11 corrects it -/
  onCard : Bool
  /-- the `constraints` column and the low zero bits of a scaled immediate -/
  operandsOk : Bool
deriving DecidableEq, Repr

/-- A shift amount: six bits on RV64, five on RV32, where `shamt[5] = 1` is illegal (R106, R124). -/
def shamtOk (x : Xlen) (shamt : BitVec 6) : Bool := x == .rv64 || shamt.extractLsb' 5 1 == 0#1

/-- The low `k` bits of a scaled immediate are zero (R103, R105, R121). -/
def lowZero {n : Nat} (k : Nat) (imm : BitVec n) : Bool := imm.extractLsb' 0 k == 0#k

/-- The row of an instruction, by mnemonic. Two entries of `on_card` are not the table's: C.ADDI16SP is off
the card, as ruling C11 of 90_conflicts.md and R132 say (DEDUCED, log entry 23), and CSRRWI on `fflags`,
whose words are FSFLAGSI's, is off the card as R484 and R132 say of FSFLAGSI (DEDUCED, log entry 12). -/
def Instr.row (x : Xlen) : Instr → Row
  | .lb _ _ _ => ⟨.both, [], true, true⟩
  | .lh _ _ _ => ⟨.both, [], true, true⟩
  | .lw _ _ _ => ⟨.both, [], true, true⟩
  | .lbu _ _ _ => ⟨.both, [], true, true⟩
  | .lhu _ _ _ => ⟨.both, [], true, true⟩
  | .ld _ _ _ => ⟨.only64, [], true, true⟩
  | .lwu _ _ _ => ⟨.only64, [], true, true⟩
  | .sb _ _ _ => ⟨.both, [], true, true⟩
  | .sh _ _ _ => ⟨.both, [], true, true⟩
  | .sw _ _ _ => ⟨.both, [], true, true⟩
  | .sd _ _ _ => ⟨.only64, [], true, true⟩
  | .sll _ _ _ => ⟨.both, [], true, true⟩
  | .slli _ _ shamt => ⟨.both, [], true, shamtOk x shamt⟩
  | .srl _ _ _ => ⟨.both, [], true, true⟩
  | .srli _ _ shamt => ⟨.both, [], true, shamtOk x shamt⟩
  | .sra _ _ _ => ⟨.both, [], true, true⟩
  | .srai _ _ shamt => ⟨.both, [], true, shamtOk x shamt⟩
  | .sllw _ _ _ => ⟨.only64, [], true, true⟩
  | .slliw _ _ _ => ⟨.only64, [], true, true⟩
  | .srlw _ _ _ => ⟨.only64, [], true, true⟩
  | .srliw _ _ _ => ⟨.only64, [], true, true⟩
  | .sraw _ _ _ => ⟨.only64, [], true, true⟩
  | .sraiw _ _ _ => ⟨.only64, [], true, true⟩
  | .add _ _ _ => ⟨.both, [], true, true⟩
  | .addi _ _ _ => ⟨.both, [], true, true⟩
  | .sub _ _ _ => ⟨.both, [], true, true⟩
  | .addw _ _ _ => ⟨.only64, [], true, true⟩
  | .addiw _ _ _ => ⟨.only64, [], true, true⟩
  | .subw _ _ _ => ⟨.only64, [], false, true⟩
  | .lui _ _ => ⟨.both, [], true, true⟩
  | .auipc _ _ => ⟨.both, [], true, true⟩
  | .xor _ _ _ => ⟨.both, [], true, true⟩
  | .xori _ _ _ => ⟨.both, [], true, true⟩
  | .or _ _ _ => ⟨.both, [], true, true⟩
  | .ori _ _ _ => ⟨.both, [], true, true⟩
  | .and _ _ _ => ⟨.both, [], true, true⟩
  | .andi _ _ _ => ⟨.both, [], true, true⟩
  | .slt _ _ _ => ⟨.both, [], true, true⟩
  | .slti _ _ _ => ⟨.both, [], true, true⟩
  | .sltu _ _ _ => ⟨.both, [], true, true⟩
  | .sltiu _ _ _ => ⟨.both, [], true, true⟩
  | .beq _ _ imm => ⟨.both, [], true, lowZero 1 imm⟩
  | .bne _ _ imm => ⟨.both, [], true, lowZero 1 imm⟩
  | .blt _ _ imm => ⟨.both, [], true, lowZero 1 imm⟩
  | .bge _ _ imm => ⟨.both, [], true, lowZero 1 imm⟩
  | .bltu _ _ imm => ⟨.both, [], true, lowZero 1 imm⟩
  | .bgeu _ _ imm => ⟨.both, [], true, lowZero 1 imm⟩
  | .jal _ imm => ⟨.both, [], true, lowZero 1 imm⟩
  | .jalr _ _ _ => ⟨.both, [], true, true⟩
  | .fence _ _ _ _ _ => ⟨.both, [], true, true⟩
  | .fenceI _ _ _ => ⟨.both, [], true, true⟩
  | .scall => ⟨.both, [], true, true⟩
  | .sbreak => ⟨.both, [], true, true⟩
  | .rdcycle _ => ⟨.both, [], true, true⟩
  | .rdcycleh _ => ⟨.only32, [], true, true⟩
  | .rdtime _ => ⟨.both, [], true, true⟩
  | .rdtimeh _ => ⟨.only32, [], true, true⟩
  | .rdinstret _ => ⟨.both, [], true, true⟩
  | .rdinstreth _ => ⟨.only32, [], true, true⟩
  | .csrrw _ _ _ => ⟨.both, [], true, true⟩
  | .csrrs _ _ _ => ⟨.both, [], true, true⟩
  | .csrrc _ _ _ => ⟨.both, [], true, true⟩
  | .csrrwi _ csr _ => ⟨.both, [], csr != 0x001#12, true⟩
  | .csrrsi _ _ _ => ⟨.both, [], false, true⟩
  | .csrrci _ _ _ => ⟨.both, [], true, true⟩
  | .ecall => ⟨.both, [], true, true⟩
  | .ebreak => ⟨.both, [], true, true⟩
  | .eret => ⟨.both, [], true, true⟩
  | .mrts => ⟨.both, [], true, true⟩
  | .mrth => ⟨.both, [], true, true⟩
  | .hrts => ⟨.both, [], true, true⟩
  | .wfi => ⟨.both, [], true, true⟩
  | .sfenceVm _ => ⟨.both, [], true, true⟩
  | .cLw _ _ uimm => ⟨.both, [.C], true, lowZero 2 uimm⟩
  | .cLwsp rd uimm => ⟨.both, [.C], true, lowZero 2 uimm && rd != 0#5⟩
  | .cLd _ _ uimm => ⟨.only64, [.C], true, lowZero 3 uimm⟩
  | .cLdsp rd uimm => ⟨.only64, [.C], true, lowZero 3 uimm && rd != 0#5⟩
  | .cSw _ _ uimm => ⟨.both, [.C], true, lowZero 2 uimm⟩
  | .cSwsp _ uimm => ⟨.both, [.C], true, lowZero 2 uimm⟩
  | .cSd _ _ uimm => ⟨.only64, [.C], true, lowZero 3 uimm⟩
  | .cSdsp _ uimm => ⟨.only64, [.C], true, lowZero 3 uimm⟩
  | .cAdd _ rs2 => ⟨.both, [.C], true, rs2 != 0#5⟩
  | .cAddw _ _ => ⟨.only64, [.C], true, true⟩
  | .cAddi _ _ => ⟨.both, [.C], true, true⟩
  | .cAddiw rd _ => ⟨.only64, [.C], true, rd != 0#5⟩
  | .cAddi16sp imm => ⟨.both, [.C], false, lowZero 4 imm && imm != 0#10⟩
  | .cAddi4spn _ uimm => ⟨.both, [.C], true, lowZero 2 uimm && uimm != 0#10⟩
  | .cLi _ _ => ⟨.both, [.C], true, true⟩
  | .cLui rd imm => ⟨.both, [.C], true, rd != 2#5 && imm != 0#6⟩
  | .cMv _ rs2 => ⟨.both, [.C], true, rs2 != 0#5⟩
  | .cSub _ _ => ⟨.both, [.C], false, true⟩
  | .cSlli _ shamt => ⟨.both, [.C], true, shamtOk x shamt⟩
  | .cBeqz _ imm => ⟨.both, [.C], true, lowZero 1 imm⟩
  | .cBnez _ imm => ⟨.both, [.C], true, lowZero 1 imm⟩
  | .cJ imm => ⟨.both, [.C], true, lowZero 1 imm⟩
  | .cJr rs1 => ⟨.both, [.C], true, rs1 != 0#5⟩
  | .cJal imm => ⟨.only32, [.C], true, lowZero 1 imm⟩
  | .cJalr rs1 => ⟨.both, [.C], true, rs1 != 0#5⟩
  | .cEbreak => ⟨.both, [.C], true, true⟩
  | .cNop => ⟨.both, [.C], false, true⟩
  | .cSrli _ shamt => ⟨.both, [.C], false, shamtOk x shamt⟩
  | .cSrai _ shamt => ⟨.both, [.C], false, shamtOk x shamt⟩
  | .cAndi _ _ => ⟨.both, [.C], false, true⟩
  | .cXor _ _ => ⟨.both, [.C], false, true⟩
  | .cOr _ _ => ⟨.both, [.C], false, true⟩
  | .cAnd _ _ => ⟨.both, [.C], false, true⟩
  | .cSubw _ _ => ⟨.only64, [.C], false, true⟩
  | .cFlw _ _ uimm => ⟨.only32, [.C, .F], false, lowZero 2 uimm⟩
  | .cFlwsp _ uimm => ⟨.only32, [.C, .F], false, lowZero 2 uimm⟩
  | .cFsw _ _ uimm => ⟨.only32, [.C, .F], false, lowZero 2 uimm⟩
  | .cFswsp _ uimm => ⟨.only32, [.C, .F], false, lowZero 2 uimm⟩
  | .cFld _ _ uimm => ⟨.both, [.C, .D], false, lowZero 3 uimm⟩
  | .cFldsp _ uimm => ⟨.both, [.C, .D], false, lowZero 3 uimm⟩
  | .cFsd _ _ uimm => ⟨.both, [.C, .D], false, lowZero 3 uimm⟩
  | .cFsdsp _ uimm => ⟨.both, [.C, .D], false, lowZero 3 uimm⟩
  | .mul _ _ _ => ⟨.both, [.M], true, true⟩
  | .mulh _ _ _ => ⟨.both, [.M], true, true⟩
  | .mulhsu _ _ _ => ⟨.both, [.M], true, true⟩
  | .mulhu _ _ _ => ⟨.both, [.M], true, true⟩
  | .div _ _ _ => ⟨.both, [.M], true, true⟩
  | .divu _ _ _ => ⟨.both, [.M], true, true⟩
  | .rem _ _ _ => ⟨.both, [.M], true, true⟩
  | .remu _ _ _ => ⟨.both, [.M], true, true⟩
  | .mulw _ _ _ => ⟨.only64, [.M], true, true⟩
  | .divw _ _ _ => ⟨.only64, [.M], true, true⟩
  | .divuw _ _ _ => ⟨.only64, [.M], false, true⟩
  | .remw _ _ _ => ⟨.only64, [.M], true, true⟩
  | .remuw _ _ _ => ⟨.only64, [.M], true, true⟩
  | .lrW _ _ _ _ => ⟨.both, [.A], true, true⟩
  | .scW _ _ _ _ _ => ⟨.both, [.A], true, true⟩
  | .amoswapW _ _ _ _ _ => ⟨.both, [.A], true, true⟩
  | .amoaddW _ _ _ _ _ => ⟨.both, [.A], true, true⟩
  | .amoxorW _ _ _ _ _ => ⟨.both, [.A], false, true⟩
  | .amoandW _ _ _ _ _ => ⟨.both, [.A], true, true⟩
  | .amoorW _ _ _ _ _ => ⟨.both, [.A], true, true⟩
  | .amominW _ _ _ _ _ => ⟨.both, [.A], true, true⟩
  | .amomaxW _ _ _ _ _ => ⟨.both, [.A], true, true⟩
  | .amominuW _ _ _ _ _ => ⟨.both, [.A], true, true⟩
  | .amomaxuW _ _ _ _ _ => ⟨.both, [.A], true, true⟩
  | .lrD _ _ _ _ => ⟨.only64, [.A], true, true⟩
  | .scD _ _ _ _ _ => ⟨.only64, [.A], true, true⟩
  | .amoswapD _ _ _ _ _ => ⟨.only64, [.A], true, true⟩
  | .amoaddD _ _ _ _ _ => ⟨.only64, [.A], true, true⟩
  | .amoxorD _ _ _ _ _ => ⟨.only64, [.A], false, true⟩
  | .amoandD _ _ _ _ _ => ⟨.only64, [.A], true, true⟩
  | .amoorD _ _ _ _ _ => ⟨.only64, [.A], true, true⟩
  | .amominD _ _ _ _ _ => ⟨.only64, [.A], true, true⟩
  | .amomaxD _ _ _ _ _ => ⟨.only64, [.A], true, true⟩
  | .amominuD _ _ _ _ _ => ⟨.only64, [.A], true, true⟩
  | .amomaxuD _ _ _ _ _ => ⟨.only64, [.A], true, true⟩
  | .fmvSX _ _ => ⟨.both, [.F], true, true⟩
  | .fmvXS _ _ => ⟨.both, [.F], true, true⟩
  | .fmvDX _ _ => ⟨.only64, [.D], true, true⟩
  | .fmvXD _ _ => ⟨.only64, [.D], true, true⟩
  | .flw _ _ _ => ⟨.both, [.F], true, true⟩
  | .fsw _ _ _ => ⟨.both, [.F], true, true⟩
  | .fld _ _ _ => ⟨.both, [.D], false, true⟩
  | .fsd _ _ _ => ⟨.both, [.D], false, true⟩
  | .flq _ _ _ => ⟨.both, [.Q], false, true⟩
  | .fsq _ _ _ => ⟨.both, [.Q], false, true⟩
  | .fcvtSW _ _ _ => ⟨.both, [.F], true, true⟩
  | .fcvtDW _ _ _ => ⟨.both, [.D], true, true⟩
  | .fcvtQW _ _ _ => ⟨.both, [.Q], true, true⟩
  | .fcvtSWU _ _ _ => ⟨.both, [.F], true, true⟩
  | .fcvtDWU _ _ _ => ⟨.both, [.D], true, true⟩
  | .fcvtQWU _ _ _ => ⟨.both, [.Q], true, true⟩
  | .fcvtSL _ _ _ => ⟨.only64, [.F], true, true⟩
  | .fcvtDL _ _ _ => ⟨.only64, [.D], true, true⟩
  | .fcvtQL _ _ _ => ⟨.only64, [.Q], true, true⟩
  | .fcvtSLU _ _ _ => ⟨.only64, [.F], true, true⟩
  | .fcvtDLU _ _ _ => ⟨.only64, [.D], true, true⟩
  | .fcvtQLU _ _ _ => ⟨.only64, [.Q], true, true⟩
  | .fcvtWS _ _ _ => ⟨.both, [.F], true, true⟩
  | .fcvtWD _ _ _ => ⟨.both, [.D], true, true⟩
  | .fcvtWQ _ _ _ => ⟨.both, [.Q], true, true⟩
  | .fcvtWUS _ _ _ => ⟨.both, [.F], true, true⟩
  | .fcvtWUD _ _ _ => ⟨.both, [.D], true, true⟩
  | .fcvtWUQ _ _ _ => ⟨.both, [.Q], true, true⟩
  | .fcvtLS _ _ _ => ⟨.only64, [.F], true, true⟩
  | .fcvtLD _ _ _ => ⟨.only64, [.D], true, true⟩
  | .fcvtLQ _ _ _ => ⟨.only64, [.Q], true, true⟩
  | .fcvtLUS _ _ _ => ⟨.only64, [.F], true, true⟩
  | .fcvtLUD _ _ _ => ⟨.only64, [.D], true, true⟩
  | .fcvtLUQ _ _ _ => ⟨.only64, [.Q], true, true⟩
  | .fcvtSD _ _ _ => ⟨.both, [.D], false, true⟩
  | .fcvtDS _ _ _ => ⟨.both, [.D], false, true⟩
  | .fcvtSQ _ _ _ => ⟨.both, [.Q], false, true⟩
  | .fcvtQS _ _ _ => ⟨.both, [.Q], false, true⟩
  | .fcvtDQ _ _ _ => ⟨.both, [.Q], false, true⟩
  | .fcvtQD _ _ _ => ⟨.both, [.Q], false, true⟩
  | .faddS _ _ _ _ => ⟨.both, [.F], true, true⟩
  | .faddD _ _ _ _ => ⟨.both, [.D], true, true⟩
  | .faddQ _ _ _ _ => ⟨.both, [.Q], true, true⟩
  | .fsubS _ _ _ _ => ⟨.both, [.F], true, true⟩
  | .fsubD _ _ _ _ => ⟨.both, [.D], true, true⟩
  | .fsubQ _ _ _ _ => ⟨.both, [.Q], true, true⟩
  | .fmulS _ _ _ _ => ⟨.both, [.F], true, true⟩
  | .fmulD _ _ _ _ => ⟨.both, [.D], true, true⟩
  | .fmulQ _ _ _ _ => ⟨.both, [.Q], true, true⟩
  | .fdivS _ _ _ _ => ⟨.both, [.F], true, true⟩
  | .fdivD _ _ _ _ => ⟨.both, [.D], true, true⟩
  | .fdivQ _ _ _ _ => ⟨.both, [.Q], true, true⟩
  | .fsqrtS _ _ _ => ⟨.both, [.F], true, true⟩
  | .fsqrtD _ _ _ => ⟨.both, [.D], true, true⟩
  | .fsqrtQ _ _ _ => ⟨.both, [.Q], true, true⟩
  | .fmaddS _ _ _ _ _ => ⟨.both, [.F], true, true⟩
  | .fmaddD _ _ _ _ _ => ⟨.both, [.D], true, true⟩
  | .fmaddQ _ _ _ _ _ => ⟨.both, [.Q], true, true⟩
  | .fmsubS _ _ _ _ _ => ⟨.both, [.F], true, true⟩
  | .fmsubD _ _ _ _ _ => ⟨.both, [.D], true, true⟩
  | .fmsubQ _ _ _ _ _ => ⟨.both, [.Q], true, true⟩
  | .fnmsubS _ _ _ _ _ => ⟨.both, [.F], true, true⟩
  | .fnmsubD _ _ _ _ _ => ⟨.both, [.D], true, true⟩
  | .fnmsubQ _ _ _ _ _ => ⟨.both, [.Q], true, true⟩
  | .fnmaddS _ _ _ _ _ => ⟨.both, [.F], true, true⟩
  | .fnmaddD _ _ _ _ _ => ⟨.both, [.D], true, true⟩
  | .fnmaddQ _ _ _ _ _ => ⟨.both, [.Q], true, true⟩
  | .fsgnjS _ _ _ => ⟨.both, [.F], true, true⟩
  | .fsgnjD _ _ _ => ⟨.both, [.D], true, true⟩
  | .fsgnjQ _ _ _ => ⟨.both, [.Q], true, true⟩
  | .fsgnjnS _ _ _ => ⟨.both, [.F], true, true⟩
  | .fsgnjnD _ _ _ => ⟨.both, [.D], true, true⟩
  | .fsgnjnQ _ _ _ => ⟨.both, [.Q], true, true⟩
  | .fsgnjxS _ _ _ => ⟨.both, [.F], true, true⟩
  | .fsgnjxD _ _ _ => ⟨.both, [.D], true, true⟩
  | .fsgnjxQ _ _ _ => ⟨.both, [.Q], true, true⟩
  | .fminS _ _ _ => ⟨.both, [.F], true, true⟩
  | .fminD _ _ _ => ⟨.both, [.D], true, true⟩
  | .fminQ _ _ _ => ⟨.both, [.Q], true, true⟩
  | .fmaxS _ _ _ => ⟨.both, [.F], true, true⟩
  | .fmaxD _ _ _ => ⟨.both, [.D], true, true⟩
  | .fmaxQ _ _ _ => ⟨.both, [.Q], true, true⟩
  | .feqS _ _ _ => ⟨.both, [.F], true, true⟩
  | .feqD _ _ _ => ⟨.both, [.D], true, true⟩
  | .feqQ _ _ _ => ⟨.both, [.Q], true, true⟩
  | .fltS _ _ _ => ⟨.both, [.F], true, true⟩
  | .fltD _ _ _ => ⟨.both, [.D], true, true⟩
  | .fltQ _ _ _ => ⟨.both, [.Q], true, true⟩
  | .fleS _ _ _ => ⟨.both, [.F], true, true⟩
  | .fleD _ _ _ => ⟨.both, [.D], true, true⟩
  | .fleQ _ _ _ => ⟨.both, [.Q], true, true⟩
  | .fclassS _ _ => ⟨.both, [.F], true, true⟩
  | .fclassD _ _ => ⟨.both, [.D], true, true⟩
  | .fclassQ _ _ => ⟨.both, [.Q], true, true⟩
  | .frcsr _ => ⟨.both, [.F], true, true⟩
  | .frrm _ => ⟨.both, [.F], true, true⟩
  | .frflags _ => ⟨.both, [.F], true, true⟩
  | .fscsr _ _ => ⟨.both, [.F], true, true⟩
  | .fsrm _ _ => ⟨.both, [.F], true, true⟩
  | .fsflags _ _ => ⟨.both, [.F], true, true⟩
  | .fsrmi _ _ => ⟨.both, [.F], true, true⟩
  | .fsflagsi _ _ => ⟨.both, [.F], false, true⟩

/-- An instruction the decoder may answer under `c` (R100): its row exists at `XLEN`, every letter
of its `ext` list is in `EXT`, its constraints hold, and with `OFFCARD = off` it is on the card. -/
def Instr.wellFormed (c : Config) (i : Instr) : Bool :=
  let r := i.row c.xlen
  r.widths.has c.xlen && r.ext.all c.ext.has && r.operandsOk && (c.offCard == .on || r.onCard)

/-- The core instruction whose words an alias row names (R128, the `alias_of` column); every other
instruction is its own. -/
def Instr.core : Instr → Instr
  | .rdcycle rd => .csrrs rd 0xC00#12 0#5
  | .rdcycleh rd => .csrrs rd 0xC80#12 0#5
  | .rdtime rd => .csrrs rd 0xC01#12 0#5
  | .rdtimeh rd => .csrrs rd 0xC81#12 0#5
  | .rdinstret rd => .csrrs rd 0xC02#12 0#5
  | .rdinstreth rd => .csrrs rd 0xC82#12 0#5
  | .ecall => .scall
  | .ebreak => .sbreak
  | .cNop => .cAddi 0#5 0#6
  | .frcsr rd => .csrrs rd 0x003#12 0#5
  | .frrm rd => .csrrs rd 0x002#12 0#5
  | .frflags rd => .csrrs rd 0x001#12 0#5
  | .fscsr rd rs1 => .csrrw rd 0x003#12 rs1
  | .fsrm rd rs1 => .csrrw rd 0x002#12 rs1
  | .fsflags rd rs1 => .csrrw rd 0x001#12 rs1
  | .fsrmi rd zimm => .csrrwi rd 0x002#12 zimm
  | .fsflagsi rd zimm => .csrrwi rd 0x001#12 zimm
  | i => i

end Sys2Proof
end

