-- ==== Sys2Proof/Decode.lean ====
section
/-! DEFINITION. Decoding (R90 to R125), total on every word and rejecting by name, and the encoder,
written from the same encodings. Decoding splits a word by major opcode (R108, R109) or compressed
quadrant (R123); the table's other columns are then checked by `Instr.wellFormed` (R100). -/

namespace Sys2Proof

/-- Why a word is no instruction; each is `IllegalInstruction` (R504). -/
inductive DecodeError where
  /-- A 16-bit word no row's bits match (R124). -/
  | noRow16 (h : BitVec 16)
  /-- A 32-bit word no row's bits match (R118, R119). -/
  | noRow32 (w : BitVec 32)
  /-- An encoding longer than 32 bits (R91, D29). -/
  | longerThan32 (w : BitVec 32)
  /-- A row's bits match and its `xlen`, `ext`, `constraints` or `on_card` column does not hold. -/
  | notInConfiguration (word : BitVec 32)
deriving DecidableEq, Repr

/-- The illegal word an error reports, zero-extended (R500). -/
def DecodeError.word : DecodeError → BitVec 32
  | .noRow16 h => h.setWidth 32
  | .noRow32 w => w
  | .longerThan32 w => w
  | .notInConfiguration w => w

/-- An encoded instruction: one 16-bit parcel or one 32-bit word (R90). -/
inductive Encoded where
  | half (h : BitVec 16)
  | word (w : BitVec 32)
deriving DecidableEq, Repr

/-- The encoded instruction as a 32-bit number, a parcel zero-extended (R500). -/
def Encoded.zext : Encoded → BitVec 32
  | .half h => h.setWidth 32
  | .word w => w

/-! ### Bit fields -/

/-- A `w`-bit string that holds `v` from bit `k` up and zeros elsewhere. -/
def place {n : Nat} (w k : Nat) (v : BitVec n) : BitVec w := v.setWidth w <<< k

/-- Major opcode with `inst[1:0]` (R108). -/
def opcodeOf (w : BitVec 32) : BitVec 7 := w.extractLsb' 0 7
/-- `rd` (R99). -/
def rdOf (w : BitVec 32) : RegIdx := w.extractLsb' 7 5
/-- `funct3`, or `rm` (R92). -/
def funct3Of (w : BitVec 32) : BitVec 3 := w.extractLsb' 12 3
/-- `rs1` (R99). -/
def rs1Of (w : BitVec 32) : RegIdx := w.extractLsb' 15 5
/-- `rs2` (R99). -/
def rs2Of (w : BitVec 32) : RegIdx := w.extractLsb' 20 5
/-- `rs3` (R98). -/
def rs3Of (w : BitVec 32) : RegIdx := w.extractLsb' 27 5
/-- `fmt`, bits 26:25 (R92, R98). -/
def fmtOf (w : BitVec 32) : BitVec 2 := w.extractLsb' 25 2
/-- `funct5`, bits 31:27 (R92). -/
def funct5Of (w : BitVec 32) : BitVec 5 := w.extractLsb' 27 5
/-- `funct7`, bits 31:25 (R92). -/
def funct7Of (w : BitVec 32) : BitVec 7 := w.extractLsb' 25 7
/-- The I-immediate field, or the CSR number (R101, R107). -/
def immIOf (w : BitVec 32) : BitVec 12 := w.extractLsb' 20 12
/-- The S-immediate (R102). -/
def immSOf (w : BitVec 32) : BitVec 12 :=
  place 12 5 (w.extractLsb' 25 7) ||| place 12 0 (w.extractLsb' 7 5)
/-- The SB-immediate, bit 0 zero (R103). -/
def immBOf (w : BitVec 32) : BitVec 13 :=
  place 13 12 (w.extractLsb' 31 1) ||| place 13 11 (w.extractLsb' 7 1)
    ||| place 13 5 (w.extractLsb' 25 6) ||| place 13 1 (w.extractLsb' 8 4)
/-- The U-immediate field (R104). -/
def immUOf (w : BitVec 32) : BitVec 20 := w.extractLsb' 12 20
/-- The UJ-immediate, bit 0 zero (R105). -/
def immJOf (w : BitVec 32) : BitVec 21 :=
  place 21 20 (w.extractLsb' 31 1) ||| place 21 12 (w.extractLsb' 12 8)
    ||| place 21 11 (w.extractLsb' 20 1) ||| place 21 1 (w.extractLsb' 21 10)

/-! ### The 32-bit space -/

/-- LOAD (R109). -/
def decodeLoad (w : BitVec 32) : Option Instr :=
  match funct3Of w with
  | 0b000#3 => some (.lb (rdOf w) (rs1Of w) (immIOf w))
  | 0b001#3 => some (.lh (rdOf w) (rs1Of w) (immIOf w))
  | 0b010#3 => some (.lw (rdOf w) (rs1Of w) (immIOf w))
  | 0b011#3 => some (.ld (rdOf w) (rs1Of w) (immIOf w))
  | 0b100#3 => some (.lbu (rdOf w) (rs1Of w) (immIOf w))
  | 0b101#3 => some (.lhu (rdOf w) (rs1Of w) (immIOf w))
  | 0b110#3 => some (.lwu (rdOf w) (rs1Of w) (immIOf w))
  | _ => none

/-- STORE (R109). -/
def decodeStore (w : BitVec 32) : Option Instr :=
  match funct3Of w with
  | 0b000#3 => some (.sb (rs1Of w) (rs2Of w) (immSOf w))
  | 0b001#3 => some (.sh (rs1Of w) (rs2Of w) (immSOf w))
  | 0b010#3 => some (.sw (rs1Of w) (rs2Of w) (immSOf w))
  | 0b011#3 => some (.sd (rs1Of w) (rs2Of w) (immSOf w))
  | _ => none

/-- LOAD-FP (R109). -/
def decodeLoadFp (w : BitVec 32) : Option Instr :=
  match funct3Of w with
  | 0b010#3 => some (.flw (rdOf w) (rs1Of w) (immIOf w))
  | 0b011#3 => some (.fld (rdOf w) (rs1Of w) (immIOf w))
  | 0b100#3 => some (.flq (rdOf w) (rs1Of w) (immIOf w))
  | _ => none

/-- STORE-FP (R109). -/
def decodeStoreFp (w : BitVec 32) : Option Instr :=
  match funct3Of w with
  | 0b010#3 => some (.fsw (rs1Of w) (rs2Of w) (immSOf w))
  | 0b011#3 => some (.fsd (rs1Of w) (rs2Of w) (immSOf w))
  | 0b100#3 => some (.fsq (rs1Of w) (rs2Of w) (immSOf w))
  | _ => none

/-- MISC-MEM (R109, R193, R194). -/
def decodeMiscMem (w : BitVec 32) : Option Instr :=
  match funct3Of w with
  | 0b000#3 => some (.fence (w.extractLsb' 24 4) (w.extractLsb' 20 4) (w.extractLsb' 28 4) (rs1Of w) (rdOf w))
  | 0b001#3 => some (.fenceI (immIOf w) (rs1Of w) (rdOf w))
  | _ => none

/-- OP-IMM (R109). The shifts are told apart by `inst[31:26]`; `inst[25]` is `shamt[5]` (R106). -/
def decodeOpImm (w : BitVec 32) : Option Instr :=
  let funct6 : BitVec 6 := w.extractLsb' 26 6
  let shamt : BitVec 6 := w.extractLsb' 20 6
  match funct3Of w with
  | 0b000#3 => some (.addi (rdOf w) (rs1Of w) (immIOf w))
  | 0b010#3 => some (.slti (rdOf w) (rs1Of w) (immIOf w))
  | 0b011#3 => some (.sltiu (rdOf w) (rs1Of w) (immIOf w))
  | 0b100#3 => some (.xori (rdOf w) (rs1Of w) (immIOf w))
  | 0b110#3 => some (.ori (rdOf w) (rs1Of w) (immIOf w))
  | 0b111#3 => some (.andi (rdOf w) (rs1Of w) (immIOf w))
  | 0b001#3 => if funct6 = 0b000000#6 then some (.slli (rdOf w) (rs1Of w) shamt) else none
  | 0b101#3 =>
    if funct6 = 0b000000#6 then some (.srli (rdOf w) (rs1Of w) shamt)
    else if funct6 = 0b010000#6 then some (.srai (rdOf w) (rs1Of w) shamt)
    else none
  | _ => none

/-- OP-IMM-32 (R109). -/
def decodeOpImm32 (w : BitVec 32) : Option Instr :=
  match funct3Of w with
  | 0b000#3 => some (.addiw (rdOf w) (rs1Of w) (immIOf w))
  | 0b001#3 => if funct7Of w = 0b0000000#7 then some (.slliw (rdOf w) (rs1Of w) (rs2Of w)) else none
  | 0b101#3 =>
    if funct7Of w = 0b0000000#7 then some (.srliw (rdOf w) (rs1Of w) (rs2Of w))
    else if funct7Of w = 0b0100000#7 then some (.sraiw (rdOf w) (rs1Of w) (rs2Of w))
    else none
  | _ => none

/-- OP with `funct7` zero. -/
def decodeOpBase (w : BitVec 32) : Instr :=
  match funct3Of w with
  | 0b000#3 => .add (rdOf w) (rs1Of w) (rs2Of w)
  | 0b001#3 => .sll (rdOf w) (rs1Of w) (rs2Of w)
  | 0b010#3 => .slt (rdOf w) (rs1Of w) (rs2Of w)
  | 0b011#3 => .sltu (rdOf w) (rs1Of w) (rs2Of w)
  | 0b100#3 => .xor (rdOf w) (rs1Of w) (rs2Of w)
  | 0b101#3 => .srl (rdOf w) (rs1Of w) (rs2Of w)
  | 0b110#3 => .or (rdOf w) (rs1Of w) (rs2Of w)
  | _ => .and (rdOf w) (rs1Of w) (rs2Of w)

/-- OP with `funct7 = 0000001`: the M extension (R322 to R329). -/
def decodeOpMul (w : BitVec 32) : Instr :=
  match funct3Of w with
  | 0b000#3 => .mul (rdOf w) (rs1Of w) (rs2Of w)
  | 0b001#3 => .mulh (rdOf w) (rs1Of w) (rs2Of w)
  | 0b010#3 => .mulhsu (rdOf w) (rs1Of w) (rs2Of w)
  | 0b011#3 => .mulhu (rdOf w) (rs1Of w) (rs2Of w)
  | 0b100#3 => .div (rdOf w) (rs1Of w) (rs2Of w)
  | 0b101#3 => .divu (rdOf w) (rs1Of w) (rs2Of w)
  | 0b110#3 => .rem (rdOf w) (rs1Of w) (rs2Of w)
  | _ => .remu (rdOf w) (rs1Of w) (rs2Of w)

/-- OP (R109, R119). -/
def decodeOp (w : BitVec 32) : Option Instr :=
  match funct7Of w with
  | 0b0000000#7 => some (decodeOpBase w)
  | 0b0000001#7 => some (decodeOpMul w)
  | 0b0100000#7 =>
    match funct3Of w with
    | 0b000#3 => some (.sub (rdOf w) (rs1Of w) (rs2Of w))
    | 0b101#3 => some (.sra (rdOf w) (rs1Of w) (rs2Of w))
    | _ => none
  | _ => none

/-- OP-32 (R109, R119). -/
def decodeOp32 (w : BitVec 32) : Option Instr :=
  match funct7Of w with
  | 0b0000000#7 =>
    match funct3Of w with
    | 0b000#3 => some (.addw (rdOf w) (rs1Of w) (rs2Of w))
    | 0b001#3 => some (.sllw (rdOf w) (rs1Of w) (rs2Of w))
    | 0b101#3 => some (.srlw (rdOf w) (rs1Of w) (rs2Of w))
    | _ => none
  | 0b0100000#7 =>
    match funct3Of w with
    | 0b000#3 => some (.subw (rdOf w) (rs1Of w) (rs2Of w))
    | 0b101#3 => some (.sraw (rdOf w) (rs1Of w) (rs2Of w))
    | _ => none
  | 0b0000001#7 =>
    match funct3Of w with
    | 0b000#3 => some (.mulw (rdOf w) (rs1Of w) (rs2Of w))
    | 0b100#3 => some (.divw (rdOf w) (rs1Of w) (rs2Of w))
    | 0b101#3 => some (.divuw (rdOf w) (rs1Of w) (rs2Of w))
    | 0b110#3 => some (.remw (rdOf w) (rs1Of w) (rs2Of w))
    | 0b111#3 => some (.remuw (rdOf w) (rs1Of w) (rs2Of w))
    | _ => none
  | _ => none

/-- BRANCH (R109). -/
def decodeBranch (w : BitVec 32) : Option Instr :=
  match funct3Of w with
  | 0b000#3 => some (.beq (rs1Of w) (rs2Of w) (immBOf w))
  | 0b001#3 => some (.bne (rs1Of w) (rs2Of w) (immBOf w))
  | 0b100#3 => some (.blt (rs1Of w) (rs2Of w) (immBOf w))
  | 0b101#3 => some (.bge (rs1Of w) (rs2Of w) (immBOf w))
  | 0b110#3 => some (.bltu (rs1Of w) (rs2Of w) (immBOf w))
  | 0b111#3 => some (.bgeu (rs1Of w) (rs2Of w) (immBOf w))
  | _ => none

/-- JALR (R109). -/
def decodeJalr (w : BitVec 32) : Option Instr :=
  if funct3Of w = 0b000#3 then some (.jalr (rdOf w) (rs1Of w) (immIOf w)) else none

/-- SYSTEM with `funct3 = 000` (R109, R195, R196, R229 to R234): whole words, but for SFENCE.VM's
`rs1`. -/
def decodePriv (w : BitVec 32) : Option Instr :=
  if rdOf w = 0#5 then
    if immIOf w = 0x101#12 then some (.sfenceVm (rs1Of w))
    else if rs1Of w = 0#5 then
      match immIOf w with
      | 0x000#12 => some .scall
      | 0x001#12 => some .sbreak
      | 0x100#12 => some .eret
      | 0x305#12 => some .mrts
      | 0x306#12 => some .mrth
      | 0x205#12 => some .hrts
      | 0x102#12 => some .wfi
      | _ => none
    else none
  else none

/-- SYSTEM (R109). -/
def decodeSystem (w : BitVec 32) : Option Instr :=
  match funct3Of w with
  | 0b000#3 => decodePriv w
  | 0b001#3 => some (.csrrw (rdOf w) (immIOf w) (rs1Of w))
  | 0b010#3 => some (.csrrs (rdOf w) (immIOf w) (rs1Of w))
  | 0b011#3 => some (.csrrc (rdOf w) (immIOf w) (rs1Of w))
  | 0b101#3 => some (.csrrwi (rdOf w) (immIOf w) (rs1Of w))
  | 0b110#3 => some (.csrrsi (rdOf w) (immIOf w) (rs1Of w))
  | 0b111#3 => some (.csrrci (rdOf w) (immIOf w) (rs1Of w))
  | _ => none

/-- The `.W` (`funct3 = 010`) or the `.D` (`011`) form of an atomic (R109). -/
def byWidth (w : BitVec 32) (wForm dForm : Instr) : Option Instr :=
  match funct3Of w with
  | 0b010#3 => some wForm
  | 0b011#3 => some dForm
  | _ => none

/-- AMO (R109, R340). -/
def decodeAmo (w : BitVec 32) : Option Instr :=
  let rd := rdOf w
  let rs1 := rs1Of w
  let rs2 := rs2Of w
  let aq : BitVec 1 := w.extractLsb' 26 1
  let rl : BitVec 1 := w.extractLsb' 25 1
  match funct5Of w with
  | 0b00010#5 => if rs2 = 0#5 then byWidth w (.lrW rd rs1 aq rl) (.lrD rd rs1 aq rl) else none
  | 0b00011#5 => byWidth w (.scW rd rs1 rs2 aq rl) (.scD rd rs1 rs2 aq rl)
  | 0b00001#5 => byWidth w (.amoswapW rd rs1 rs2 aq rl) (.amoswapD rd rs1 rs2 aq rl)
  | 0b00000#5 => byWidth w (.amoaddW rd rs1 rs2 aq rl) (.amoaddD rd rs1 rs2 aq rl)
  | 0b00100#5 => byWidth w (.amoxorW rd rs1 rs2 aq rl) (.amoxorD rd rs1 rs2 aq rl)
  | 0b01100#5 => byWidth w (.amoandW rd rs1 rs2 aq rl) (.amoandD rd rs1 rs2 aq rl)
  | 0b01000#5 => byWidth w (.amoorW rd rs1 rs2 aq rl) (.amoorD rd rs1 rs2 aq rl)
  | 0b10000#5 => byWidth w (.amominW rd rs1 rs2 aq rl) (.amominD rd rs1 rs2 aq rl)
  | 0b10100#5 => byWidth w (.amomaxW rd rs1 rs2 aq rl) (.amomaxD rd rs1 rs2 aq rl)
  | 0b11000#5 => byWidth w (.amominuW rd rs1 rs2 aq rl) (.amominuD rd rs1 rs2 aq rl)
  | 0b11100#5 => byWidth w (.amomaxuW rd rs1 rs2 aq rl) (.amomaxuD rd rs1 rs2 aq rl)
  | _ => none

/-- The `.S`, `.D` or `.Q` form by a two-bit format field; 10 is no format (R119, R370). -/
def byFmt (fmt : BitVec 2) (s d q : Instr) : Option Instr :=
  match fmt with
  | 0b00#2 => some s
  | 0b01#2 => some d
  | 0b11#2 => some q
  | _ => none

/-- MADD, MSUB, NMSUB, NMADD (R98, R109). -/
def decodeFma (w : BitVec 32) (s d q : RegIdx → RegIdx → RegIdx → RegIdx → BitVec 3 → Instr) : Option Instr :=
  byFmt (fmtOf w) (s (rdOf w) (rs1Of w) (rs2Of w) (rs3Of w) (funct3Of w))
    (d (rdOf w) (rs1Of w) (rs2Of w) (rs3Of w) (funct3Of w))
    (q (rdOf w) (rs1Of w) (rs2Of w) (rs3Of w) (funct3Of w))

/-- OP-FP, conversions between floating-point formats, the source format in `rs2` (R410 to R415). -/
def decodeFcvtFormat (w : BitVec 32) : Option Instr :=
  let rd := rdOf w
  let rs1 := rs1Of w
  let rm := funct3Of w
  match fmtOf w with
  | 0b00#2 =>
    match rs2Of w with
    | 1#5 => some (.fcvtSD rd rs1 rm)
    | 3#5 => some (.fcvtSQ rd rs1 rm)
    | _ => none
  | 0b01#2 =>
    match rs2Of w with
    | 0#5 => some (.fcvtDS rd rs1 rm)
    | 3#5 => some (.fcvtDQ rd rs1 rm)
    | _ => none
  | 0b11#2 =>
    match rs2Of w with
    | 0#5 => some (.fcvtQS rd rs1 rm)
    | 1#5 => some (.fcvtQD rd rs1 rm)
    | _ => none
  | _ => none

/-- OP-FP, conversions to an integer, its type in `rs2` (R398 to R409). -/
def decodeFcvtToInt (w : BitVec 32) : Option Instr :=
  let rd := rdOf w
  let rs1 := rs1Of w
  let rm := funct3Of w
  match rs2Of w with
  | 0#5 => byFmt (fmtOf w) (.fcvtWS rd rs1 rm) (.fcvtWD rd rs1 rm) (.fcvtWQ rd rs1 rm)
  | 1#5 => byFmt (fmtOf w) (.fcvtWUS rd rs1 rm) (.fcvtWUD rd rs1 rm) (.fcvtWUQ rd rs1 rm)
  | 2#5 => byFmt (fmtOf w) (.fcvtLS rd rs1 rm) (.fcvtLD rd rs1 rm) (.fcvtLQ rd rs1 rm)
  | 3#5 => byFmt (fmtOf w) (.fcvtLUS rd rs1 rm) (.fcvtLUD rd rs1 rm) (.fcvtLUQ rd rs1 rm)
  | _ => none

/-- OP-FP, conversions from an integer, its type in `rs2` (R386 to R397). -/
def decodeFcvtFromInt (w : BitVec 32) : Option Instr :=
  let rd := rdOf w
  let rs1 := rs1Of w
  let rm := funct3Of w
  match rs2Of w with
  | 0#5 => byFmt (fmtOf w) (.fcvtSW rd rs1 rm) (.fcvtDW rd rs1 rm) (.fcvtQW rd rs1 rm)
  | 1#5 => byFmt (fmtOf w) (.fcvtSWU rd rs1 rm) (.fcvtDWU rd rs1 rm) (.fcvtQWU rd rs1 rm)
  | 2#5 => byFmt (fmtOf w) (.fcvtSL rd rs1 rm) (.fcvtDL rd rs1 rm) (.fcvtQL rd rs1 rm)
  | 3#5 => byFmt (fmtOf w) (.fcvtSLU rd rs1 rm) (.fcvtDLU rd rs1 rm) (.fcvtQLU rd rs1 rm)
  | _ => none

/-- OP-FP with `funct5 = 11100`: moves to an x register and FCLASS (R374, R376, R474 to R476). -/
def decodeFmvToX (w : BitVec 32) : Option Instr :=
  if rs2Of w = 0#5 then
    match funct3Of w with
    | 0b000#3 =>
      match fmtOf w with
      | 0b00#2 => some (.fmvXS (rdOf w) (rs1Of w))
      | 0b01#2 => some (.fmvXD (rdOf w) (rs1Of w))
      | _ => none
    | 0b001#3 =>
      byFmt (fmtOf w) (.fclassS (rdOf w) (rs1Of w)) (.fclassD (rdOf w) (rs1Of w)) (.fclassQ (rdOf w) (rs1Of w))
    | _ => none
  else none

/-- OP-FP with `funct5 = 11110`: moves from an x register (R373, R375). -/
def decodeFmvFromX (w : BitVec 32) : Option Instr :=
  if rs2Of w = 0#5 ∧ funct3Of w = 0b000#3 then
    match fmtOf w with
    | 0b00#2 => some (.fmvSX (rdOf w) (rs1Of w))
    | 0b01#2 => some (.fmvDX (rdOf w) (rs1Of w))
    | _ => none
  else none

/-- OP-FP (R109, R370). -/
def decodeOpFp (w : BitVec 32) : Option Instr :=
  let rd := rdOf w
  let rs1 := rs1Of w
  let rs2 := rs2Of w
  let rm := funct3Of w
  match funct5Of w with
  | 0b00000#5 => byFmt (fmtOf w) (.faddS rd rs1 rs2 rm) (.faddD rd rs1 rs2 rm) (.faddQ rd rs1 rs2 rm)
  | 0b00001#5 => byFmt (fmtOf w) (.fsubS rd rs1 rs2 rm) (.fsubD rd rs1 rs2 rm) (.fsubQ rd rs1 rs2 rm)
  | 0b00010#5 => byFmt (fmtOf w) (.fmulS rd rs1 rs2 rm) (.fmulD rd rs1 rs2 rm) (.fmulQ rd rs1 rs2 rm)
  | 0b00011#5 => byFmt (fmtOf w) (.fdivS rd rs1 rs2 rm) (.fdivD rd rs1 rs2 rm) (.fdivQ rd rs1 rs2 rm)
  | 0b01011#5 =>
    if rs2 = 0#5 then byFmt (fmtOf w) (.fsqrtS rd rs1 rm) (.fsqrtD rd rs1 rm) (.fsqrtQ rd rs1 rm) else none
  | 0b00100#5 =>
    match rm with
    | 0b000#3 => byFmt (fmtOf w) (.fsgnjS rd rs1 rs2) (.fsgnjD rd rs1 rs2) (.fsgnjQ rd rs1 rs2)
    | 0b001#3 => byFmt (fmtOf w) (.fsgnjnS rd rs1 rs2) (.fsgnjnD rd rs1 rs2) (.fsgnjnQ rd rs1 rs2)
    | 0b010#3 => byFmt (fmtOf w) (.fsgnjxS rd rs1 rs2) (.fsgnjxD rd rs1 rs2) (.fsgnjxQ rd rs1 rs2)
    | _ => none
  | 0b00101#5 =>
    match rm with
    | 0b000#3 => byFmt (fmtOf w) (.fminS rd rs1 rs2) (.fminD rd rs1 rs2) (.fminQ rd rs1 rs2)
    | 0b001#3 => byFmt (fmtOf w) (.fmaxS rd rs1 rs2) (.fmaxD rd rs1 rs2) (.fmaxQ rd rs1 rs2)
    | _ => none
  | 0b10100#5 =>
    match rm with
    | 0b010#3 => byFmt (fmtOf w) (.feqS rd rs1 rs2) (.feqD rd rs1 rs2) (.feqQ rd rs1 rs2)
    | 0b001#3 => byFmt (fmtOf w) (.fltS rd rs1 rs2) (.fltD rd rs1 rs2) (.fltQ rd rs1 rs2)
    | 0b000#3 => byFmt (fmtOf w) (.fleS rd rs1 rs2) (.fleD rd rs1 rs2) (.fleQ rd rs1 rs2)
    | _ => none
  | 0b01000#5 => decodeFcvtFormat w
  | 0b11000#5 => decodeFcvtToInt w
  | 0b11010#5 => decodeFcvtFromInt w
  | 0b11100#5 => decodeFmvToX w
  | 0b11110#5 => decodeFmvFromX w
  | _ => none

/-- A 32-bit word by major opcode (R108, R109). Reserved and custom opcodes have no row (R118). -/
def rawDecode32 (w : BitVec 32) : Option Instr :=
  match opcodeOf w with
  | 0b0000011#7 => decodeLoad w
  | 0b0000111#7 => decodeLoadFp w
  | 0b0001111#7 => decodeMiscMem w
  | 0b0010011#7 => decodeOpImm w
  | 0b0010111#7 => some (.auipc (rdOf w) (immUOf w))
  | 0b0011011#7 => decodeOpImm32 w
  | 0b0100011#7 => decodeStore w
  | 0b0100111#7 => decodeStoreFp w
  | 0b0101111#7 => decodeAmo w
  | 0b0110011#7 => decodeOp w
  | 0b0110111#7 => some (.lui (rdOf w) (immUOf w))
  | 0b0111011#7 => decodeOp32 w
  | 0b1000011#7 => decodeFma w .fmaddS .fmaddD .fmaddQ
  | 0b1000111#7 => decodeFma w .fmsubS .fmsubD .fmsubQ
  | 0b1001011#7 => decodeFma w .fnmsubS .fnmsubD .fnmsubQ
  | 0b1001111#7 => decodeFma w .fnmaddS .fnmaddD .fnmaddQ
  | 0b1010011#7 => decodeOpFp w
  | 0b1100011#7 => decodeBranch w
  | 0b1100111#7 => decodeJalr w
  | 0b1101111#7 => some (.jal (rdOf w) (immJOf w))
  | 0b1110011#7 => decodeSystem w
  | _ => none

/-! ### The 16-bit space -/

/-- The three-bit register field at bits 4:2, `rd'` or `rs2'` (R121, R122). -/
def lowReg3 (h : BitVec 16) : RegIdx3 := h.extractLsb' 2 3
/-- The three-bit register field at bits 9:7, `rs1'` or `rd'/rs1'` (R121, R122). -/
def highReg3 (h : BitVec 16) : RegIdx3 := h.extractLsb' 7 3
/-- The five-bit register field at bits 11:7 (R121). -/
def highReg (h : BitVec 16) : RegIdx := h.extractLsb' 7 5
/-- The five-bit register field at bits 6:2 (R121). -/
def lowReg (h : BitVec 16) : RegIdx := h.extractLsb' 2 5
/-- The six-bit immediate of CI (R264). -/
def ciImm (h : BitVec 16) : BitVec 6 :=
  place 6 5 (h.extractLsb' 12 1) ||| place 6 0 (h.extractLsb' 2 5)
/-- The immediate of C.ADDI4SPN (R267). -/
def ciwUimm (h : BitVec 16) : BitVec 10 :=
  place 10 6 (h.extractLsb' 7 4) ||| place 10 4 (h.extractLsb' 11 2)
    ||| place 10 3 (h.extractLsb' 5 1) ||| place 10 2 (h.extractLsb' 6 1)
/-- The immediate of C.ADDI16SP (R266). -/
def addi16spImm (h : BitVec 16) : BitVec 10 :=
  place 10 9 (h.extractLsb' 12 1) ||| place 10 7 (h.extractLsb' 3 2)
    ||| place 10 6 (h.extractLsb' 5 1) ||| place 10 5 (h.extractLsb' 2 1)
    ||| place 10 4 (h.extractLsb' 6 1)
/-- The word offset of CL and CS (R254, R258). -/
def clwUimm (h : BitVec 16) : BitVec 7 :=
  place 7 6 (h.extractLsb' 5 1) ||| place 7 3 (h.extractLsb' 10 3)
    ||| place 7 2 (h.extractLsb' 6 1)
/-- The doubleword offset of CL and CS (R256, R260). -/
def cldUimm (h : BitVec 16) : BitVec 8 :=
  place 8 6 (h.extractLsb' 5 2) ||| place 8 3 (h.extractLsb' 10 3)
/-- The word offset of the CI loads (R255). -/
def lwspUimm (h : BitVec 16) : BitVec 8 :=
  place 8 6 (h.extractLsb' 2 2) ||| place 8 5 (h.extractLsb' 12 1)
    ||| place 8 2 (h.extractLsb' 4 3)
/-- The doubleword offset of the CI loads (R257). -/
def ldspUimm (h : BitVec 16) : BitVec 9 :=
  place 9 6 (h.extractLsb' 2 3) ||| place 9 5 (h.extractLsb' 12 1)
    ||| place 9 3 (h.extractLsb' 5 2)
/-- The word offset of CSS (R259). -/
def swspUimm (h : BitVec 16) : BitVec 8 :=
  place 8 6 (h.extractLsb' 7 2) ||| place 8 2 (h.extractLsb' 9 4)
/-- The doubleword offset of CSS (R261). -/
def sdspUimm (h : BitVec 16) : BitVec 9 :=
  place 9 6 (h.extractLsb' 7 3) ||| place 9 3 (h.extractLsb' 10 3)
/-- The branch offset of CB, bit 0 zero (R273, R274). -/
def cbImm (h : BitVec 16) : BitVec 9 :=
  place 9 8 (h.extractLsb' 12 1) ||| place 9 6 (h.extractLsb' 5 2)
    ||| place 9 5 (h.extractLsb' 2 1) ||| place 9 3 (h.extractLsb' 10 2)
    ||| place 9 1 (h.extractLsb' 3 2)
/-- The jump offset of CJ, bit 0 zero (R275, R277). -/
def cjImm (h : BitVec 16) : BitVec 12 :=
  place 12 11 (h.extractLsb' 12 1) ||| place 12 10 (h.extractLsb' 8 1)
    ||| place 12 8 (h.extractLsb' 9 2) ||| place 12 7 (h.extractLsb' 6 1)
    ||| place 12 6 (h.extractLsb' 7 1) ||| place 12 5 (h.extractLsb' 2 1)
    ||| place 12 4 (h.extractLsb' 11 1) ||| place 12 1 (h.extractLsb' 3 3)

/-- Quadrant 00 (R123). -/
def decodeQ0 (x : Xlen) (h : BitVec 16) : Option Instr :=
  match h.extractLsb' 13 3 with
  | 0b000#3 => some (.cAddi4spn (lowReg3 h) (ciwUimm h))
  | 0b001#3 => some (.cFld (lowReg3 h) (highReg3 h) (cldUimm h))
  | 0b010#3 => some (.cLw (lowReg3 h) (highReg3 h) (clwUimm h))
  | 0b011#3 =>
    match x with
    | .rv32 => some (.cFlw (lowReg3 h) (highReg3 h) (clwUimm h))
    | .rv64 => some (.cLd (lowReg3 h) (highReg3 h) (cldUimm h))
  | 0b101#3 => some (.cFsd (highReg3 h) (lowReg3 h) (cldUimm h))
  | 0b110#3 => some (.cSw (highReg3 h) (lowReg3 h) (clwUimm h))
  | 0b111#3 =>
    match x with
    | .rv32 => some (.cFsw (highReg3 h) (lowReg3 h) (clwUimm h))
    | .rv64 => some (.cSd (highReg3 h) (lowReg3 h) (cldUimm h))
  | _ => none

/-- Quadrant 01, `funct3 = 100`: shifts, C.ANDI and the CA format (R121, R123, R124). -/
def decodeQ1Alu (h : BitVec 16) : Option Instr :=
  match h.extractLsb' 10 2 with
  | 0b00#2 => some (.cSrli (highReg3 h) (ciImm h))
  | 0b01#2 => some (.cSrai (highReg3 h) (ciImm h))
  | 0b10#2 => some (.cAndi (highReg3 h) (ciImm h))
  | _ =>
    if h.extractLsb' 12 1 = 0#1 then
      match h.extractLsb' 5 2 with
      | 0b00#2 => some (.cSub (highReg3 h) (lowReg3 h))
      | 0b01#2 => some (.cXor (highReg3 h) (lowReg3 h))
      | 0b10#2 => some (.cOr (highReg3 h) (lowReg3 h))
      | _ => some (.cAnd (highReg3 h) (lowReg3 h))
    else
      match h.extractLsb' 5 2 with
      | 0b00#2 => some (.cSubw (highReg3 h) (lowReg3 h))
      | 0b01#2 => some (.cAddw (highReg3 h) (lowReg3 h))
      | _ => none

/-- Quadrant 01 (R123). -/
def decodeQ1 (x : Xlen) (h : BitVec 16) : Option Instr :=
  match h.extractLsb' 13 3 with
  | 0b000#3 => some (.cAddi (highReg h) (ciImm h))
  | 0b001#3 =>
    match x with
    | .rv32 => some (.cJal (cjImm h))
    | .rv64 => some (.cAddiw (highReg h) (ciImm h))
  | 0b010#3 => some (.cLi (highReg h) (ciImm h))
  | 0b011#3 =>
    if highReg h = 2#5 then some (.cAddi16sp (addi16spImm h)) else some (.cLui (highReg h) (ciImm h))
  | 0b100#3 => decodeQ1Alu h
  | 0b101#3 => some (.cJ (cjImm h))
  | 0b110#3 => some (.cBeqz (highReg3 h) (cbImm h))
  | _ => some (.cBnez (highReg3 h) (cbImm h))

/-- Quadrant 10, `funct3 = 100`: the CR format (R121, R123). -/
def decodeQ2Cr (h : BitVec 16) : Instr :=
  if h.extractLsb' 12 1 = 0#1 then
    if lowReg h = 0#5 then .cJr (highReg h) else .cMv (highReg h) (lowReg h)
  else
    if lowReg h = 0#5 then
      if highReg h = 0#5 then .cEbreak else .cJalr (highReg h)
    else .cAdd (highReg h) (lowReg h)

/-- Quadrant 10 (R123). -/
def decodeQ2 (x : Xlen) (h : BitVec 16) : Option Instr :=
  match h.extractLsb' 13 3 with
  | 0b000#3 => some (.cSlli (highReg h) (ciImm h))
  | 0b001#3 => some (.cFldsp (highReg h) (ldspUimm h))
  | 0b010#3 => some (.cLwsp (highReg h) (lwspUimm h))
  | 0b011#3 =>
    match x with
    | .rv32 => some (.cFlwsp (highReg h) (lwspUimm h))
    | .rv64 => some (.cLdsp (highReg h) (ldspUimm h))
  | 0b100#3 => some (decodeQ2Cr h)
  | 0b101#3 => some (.cFsdsp (lowReg h) (sdspUimm h))
  | 0b110#3 => some (.cSwsp (lowReg h) (swspUimm h))
  | _ =>
    match x with
    | .rv32 => some (.cFswsp (lowReg h) (swspUimm h))
    | .rv64 => some (.cSdsp (lowReg h) (sdspUimm h))

/-- A 16-bit word by quadrant (R123); `op = 11` is the 32-bit space. -/
def rawDecode16 (x : Xlen) (h : BitVec 16) : Option Instr :=
  match h.extractLsb' 0 2 with
  | 0b00#2 => decodeQ0 x h
  | 0b01#2 => decodeQ1 x h
  | 0b10#2 => decodeQ2 x h
  | _ => none

/-! ### The decoder -/

/-- Decoding a 16-bit word (R100). -/
def decode16 (c : Config) (h : BitVec 16) : Except DecodeError Instr :=
  match rawDecode16 c.xlen h with
  | none => .error (.noRow16 h)
  | some i => if i.wellFormed c then .ok i else .error (.notInConfiguration (h.setWidth 32))

/-- Decoding a 32-bit word (R91, R100). -/
def decode32 (c : Config) (w : BitVec 32) : Except DecodeError Instr :=
  if w.extractLsb' 2 3 = 0b111#3 then .error (.longerThan32 w)
  else
    match rawDecode32 w with
    | none => .error (.noRow32 w)
    | some i => if i.wellFormed c then .ok i else .error (.notInConfiguration w)

/-- Decoding what a fetch yields (R91, R100). -/
def decode (c : Config) : Encoded → Except DecodeError Instr
  | .half h => decode16 c h
  | .word w => decode32 c w

/-- The encoded instruction at the head of little-endian bytes, first byte first (R62, R91), or none
where the bytes are too few. -/
def parcelOf : List Byte → Option (Encoded × List Byte)
  | b0 :: b1 :: rest =>
    if b0.extractLsb' 0 2 = 0b11#2 then
      match rest with
      | b2 :: b3 :: rest' => some (.word (b3 ++ b2 ++ b1 ++ b0), rest')
      | _ => none
    else some (.half (b1 ++ b0), rest)
  | _ => none

/-- Decoding a byte stream: the instruction and the bytes after it. -/
def decodeBytes (c : Config) (bytes : List Byte) : Option (Except DecodeError Instr × List Byte) :=
  (parcelOf bytes).map fun (e, rest) => (decode c e, rest)

/-! ### The encoder -/

/-- Format R (R92). -/
def mkR (funct7 : BitVec 7) (rs2 rs1 : RegIdx) (funct3 : BitVec 3) (rd : RegIdx) (opcode : BitVec 7) : BitVec 32 :=
  place 32 25 funct7 ||| place 32 20 rs2 ||| place 32 15 rs1 ||| place 32 12 funct3
    ||| place 32 7 rd ||| place 32 0 opcode
/-- Format R with `funct7 = {funct5, aq, rl}` (R92, R340). -/
def mkAmo (funct5 : BitVec 5) (aq rl : BitVec 1) (rs2 rs1 : RegIdx) (funct3 : BitVec 3) (rd : RegIdx) : BitVec 32 :=
  place 32 27 funct5 ||| place 32 26 aq ||| place 32 25 rl ||| place 32 20 rs2 ||| place 32 15 rs1
    ||| place 32 12 funct3 ||| place 32 7 rd ||| place 32 0 0b0101111#7
/-- Format R4, and format R with `funct7 = {funct5, fmt}` (R92, R98). -/
def mkR4 (high : BitVec 5) (fmt : BitVec 2) (rs2 rs1 : RegIdx) (rm : BitVec 3) (rd : RegIdx) (opcode : BitVec 7) :
    BitVec 32 :=
  place 32 27 high ||| place 32 25 fmt ||| place 32 20 rs2 ||| place 32 15 rs1 ||| place 32 12 rm
    ||| place 32 7 rd ||| place 32 0 opcode
/-- Format I (R93). -/
def mkI (imm : BitVec 12) (rs1 : RegIdx) (funct3 : BitVec 3) (rd : RegIdx) (opcode : BitVec 7) : BitVec 32 :=
  place 32 20 imm ||| place 32 15 rs1 ||| place 32 12 funct3 ||| place 32 7 rd ||| place 32 0 opcode
/-- A shift by a six-bit immediate (R106). -/
def mkShift (funct6 : BitVec 6) (shamt : BitVec 6) (rs1 : RegIdx) (funct3 : BitVec 3) (rd : RegIdx) : BitVec 32 :=
  place 32 26 funct6 ||| place 32 20 shamt ||| place 32 15 rs1 ||| place 32 12 funct3 ||| place 32 7 rd
    ||| place 32 0 0b0010011#7
/-- Format S (R94). -/
def mkS (imm : BitVec 12) (rs2 rs1 : RegIdx) (funct3 : BitVec 3) (opcode : BitVec 7) : BitVec 32 :=
  place 32 25 (imm.extractLsb' 5 7) ||| place 32 20 rs2 ||| place 32 15 rs1 ||| place 32 12 funct3
    ||| place 32 7 (imm.extractLsb' 0 5) ||| place 32 0 opcode
/-- Format SB (R95). -/
def mkB (imm : BitVec 13) (rs2 rs1 : RegIdx) (funct3 : BitVec 3) : BitVec 32 :=
  place 32 31 (imm.extractLsb' 12 1) ||| place 32 25 (imm.extractLsb' 5 6) ||| place 32 20 rs2
    ||| place 32 15 rs1 ||| place 32 12 funct3 ||| place 32 8 (imm.extractLsb' 1 4)
    ||| place 32 7 (imm.extractLsb' 11 1) ||| place 32 0 0b1100011#7
/-- Format U (R96). -/
def mkU (imm : BitVec 20) (rd : RegIdx) (opcode : BitVec 7) : BitVec 32 :=
  place 32 12 imm ||| place 32 7 rd ||| place 32 0 opcode
/-- Format UJ (R97). -/
def mkJ (imm : BitVec 21) (rd : RegIdx) : BitVec 32 :=
  place 32 31 (imm.extractLsb' 20 1) ||| place 32 21 (imm.extractLsb' 1 10)
    ||| place 32 20 (imm.extractLsb' 11 1) ||| place 32 12 (imm.extractLsb' 12 8) ||| place 32 7 rd
    ||| place 32 0 0b1101111#7

/-- The words of a well-formed instruction, row by row of spec/opcode_table.json; an alias row has
its core instruction's words. -/
def encode : Instr → Encoded
  | .lb rd rs1 imm => .word (mkI imm rs1 0b000#3 rd 0b0000011#7)
  | .lh rd rs1 imm => .word (mkI imm rs1 0b001#3 rd 0b0000011#7)
  | .lw rd rs1 imm => .word (mkI imm rs1 0b010#3 rd 0b0000011#7)
  | .lbu rd rs1 imm => .word (mkI imm rs1 0b100#3 rd 0b0000011#7)
  | .lhu rd rs1 imm => .word (mkI imm rs1 0b101#3 rd 0b0000011#7)
  | .ld rd rs1 imm => .word (mkI imm rs1 0b011#3 rd 0b0000011#7)
  | .lwu rd rs1 imm => .word (mkI imm rs1 0b110#3 rd 0b0000011#7)
  | .sb rs1 rs2 imm => .word (mkS imm rs2 rs1 0b000#3 0b0100011#7)
  | .sh rs1 rs2 imm => .word (mkS imm rs2 rs1 0b001#3 0b0100011#7)
  | .sw rs1 rs2 imm => .word (mkS imm rs2 rs1 0b010#3 0b0100011#7)
  | .sd rs1 rs2 imm => .word (mkS imm rs2 rs1 0b011#3 0b0100011#7)
  | .sll rd rs1 rs2 => .word (mkR 0b0000000#7 rs2 rs1 0b001#3 rd 0b0110011#7)
  | .slli rd rs1 shamt => .word (mkShift 0b000000#6 shamt rs1 0b001#3 rd)
  | .srl rd rs1 rs2 => .word (mkR 0b0000000#7 rs2 rs1 0b101#3 rd 0b0110011#7)
  | .srli rd rs1 shamt => .word (mkShift 0b000000#6 shamt rs1 0b101#3 rd)
  | .sra rd rs1 rs2 => .word (mkR 0b0100000#7 rs2 rs1 0b101#3 rd 0b0110011#7)
  | .srai rd rs1 shamt => .word (mkShift 0b010000#6 shamt rs1 0b101#3 rd)
  | .sllw rd rs1 rs2 => .word (mkR 0b0000000#7 rs2 rs1 0b001#3 rd 0b0111011#7)
  | .slliw rd rs1 shamt => .word (mkR 0b0000000#7 shamt rs1 0b001#3 rd 0b0011011#7)
  | .srlw rd rs1 rs2 => .word (mkR 0b0000000#7 rs2 rs1 0b101#3 rd 0b0111011#7)
  | .srliw rd rs1 shamt => .word (mkR 0b0000000#7 shamt rs1 0b101#3 rd 0b0011011#7)
  | .sraw rd rs1 rs2 => .word (mkR 0b0100000#7 rs2 rs1 0b101#3 rd 0b0111011#7)
  | .sraiw rd rs1 shamt => .word (mkR 0b0100000#7 shamt rs1 0b101#3 rd 0b0011011#7)
  | .add rd rs1 rs2 => .word (mkR 0b0000000#7 rs2 rs1 0b000#3 rd 0b0110011#7)
  | .addi rd rs1 imm => .word (mkI imm rs1 0b000#3 rd 0b0010011#7)
  | .sub rd rs1 rs2 => .word (mkR 0b0100000#7 rs2 rs1 0b000#3 rd 0b0110011#7)
  | .addw rd rs1 rs2 => .word (mkR 0b0000000#7 rs2 rs1 0b000#3 rd 0b0111011#7)
  | .addiw rd rs1 imm => .word (mkI imm rs1 0b000#3 rd 0b0011011#7)
  | .subw rd rs1 rs2 => .word (mkR 0b0100000#7 rs2 rs1 0b000#3 rd 0b0111011#7)
  | .lui rd imm => .word (mkU imm rd 0b0110111#7)
  | .auipc rd imm => .word (mkU imm rd 0b0010111#7)
  | .xor rd rs1 rs2 => .word (mkR 0b0000000#7 rs2 rs1 0b100#3 rd 0b0110011#7)
  | .xori rd rs1 imm => .word (mkI imm rs1 0b100#3 rd 0b0010011#7)
  | .or rd rs1 rs2 => .word (mkR 0b0000000#7 rs2 rs1 0b110#3 rd 0b0110011#7)
  | .ori rd rs1 imm => .word (mkI imm rs1 0b110#3 rd 0b0010011#7)
  | .and rd rs1 rs2 => .word (mkR 0b0000000#7 rs2 rs1 0b111#3 rd 0b0110011#7)
  | .andi rd rs1 imm => .word (mkI imm rs1 0b111#3 rd 0b0010011#7)
  | .slt rd rs1 rs2 => .word (mkR 0b0000000#7 rs2 rs1 0b010#3 rd 0b0110011#7)
  | .slti rd rs1 imm => .word (mkI imm rs1 0b010#3 rd 0b0010011#7)
  | .sltu rd rs1 rs2 => .word (mkR 0b0000000#7 rs2 rs1 0b011#3 rd 0b0110011#7)
  | .sltiu rd rs1 imm => .word (mkI imm rs1 0b011#3 rd 0b0010011#7)
  | .beq rs1 rs2 imm => .word (mkB imm rs2 rs1 0b000#3)
  | .bne rs1 rs2 imm => .word (mkB imm rs2 rs1 0b001#3)
  | .blt rs1 rs2 imm => .word (mkB imm rs2 rs1 0b100#3)
  | .bge rs1 rs2 imm => .word (mkB imm rs2 rs1 0b101#3)
  | .bltu rs1 rs2 imm => .word (mkB imm rs2 rs1 0b110#3)
  | .bgeu rs1 rs2 imm => .word (mkB imm rs2 rs1 0b111#3)
  | .jal rd imm => .word (mkJ imm rd)
  | .jalr rd rs1 imm => .word (mkI imm rs1 0b000#3 rd 0b1100111#7)
  | .fence pred succ ign1 ign2 ign3 =>
    .word (place 32 28 ign1 ||| place 32 24 pred ||| place 32 20 succ ||| place 32 15 ign2 ||| place 32 12 0b000#3
      ||| place 32 7 ign3 ||| place 32 0 0b0001111#7)
  | .fenceI ign1 ign2 ign3 => .word (mkI ign1 ign2 0b001#3 ign3 0b0001111#7)
  | .scall => .word (mkI 0x000#12 0#5 0b000#3 0#5 0b1110011#7)
  | .sbreak => .word (mkI 0x001#12 0#5 0b000#3 0#5 0b1110011#7)
  | .rdcycle rd => .word (mkI 0xC00#12 0#5 0b010#3 rd 0b1110011#7)
  | .rdcycleh rd => .word (mkI 0xC80#12 0#5 0b010#3 rd 0b1110011#7)
  | .rdtime rd => .word (mkI 0xC01#12 0#5 0b010#3 rd 0b1110011#7)
  | .rdtimeh rd => .word (mkI 0xC81#12 0#5 0b010#3 rd 0b1110011#7)
  | .rdinstret rd => .word (mkI 0xC02#12 0#5 0b010#3 rd 0b1110011#7)
  | .rdinstreth rd => .word (mkI 0xC82#12 0#5 0b010#3 rd 0b1110011#7)
  | .csrrw rd csr rs1 => .word (mkI csr rs1 0b001#3 rd 0b1110011#7)
  | .csrrs rd csr rs1 => .word (mkI csr rs1 0b010#3 rd 0b1110011#7)
  | .csrrc rd csr rs1 => .word (mkI csr rs1 0b011#3 rd 0b1110011#7)
  | .csrrwi rd csr zimm => .word (mkI csr zimm 0b101#3 rd 0b1110011#7)
  | .csrrsi rd csr zimm => .word (mkI csr zimm 0b110#3 rd 0b1110011#7)
  | .csrrci rd csr zimm => .word (mkI csr zimm 0b111#3 rd 0b1110011#7)
  | .ecall => .word (mkI 0x000#12 0#5 0b000#3 0#5 0b1110011#7)
  | .ebreak => .word (mkI 0x001#12 0#5 0b000#3 0#5 0b1110011#7)
  | .eret => .word (mkI 0x100#12 0#5 0b000#3 0#5 0b1110011#7)
  | .mrts => .word (mkI 0x305#12 0#5 0b000#3 0#5 0b1110011#7)
  | .mrth => .word (mkI 0x306#12 0#5 0b000#3 0#5 0b1110011#7)
  | .hrts => .word (mkI 0x205#12 0#5 0b000#3 0#5 0b1110011#7)
  | .wfi => .word (mkI 0x102#12 0#5 0b000#3 0#5 0b1110011#7)
  | .sfenceVm rs1 => .word (mkI 0x101#12 rs1 0b000#3 0#5 0b1110011#7)
  | .cLw rd rs1 uimm =>
    .half (place 16 13 0b010#3 ||| place 16 10 (uimm.extractLsb' 3 3) ||| place 16 7 rs1
      ||| place 16 6 (uimm.extractLsb' 2 1) ||| place 16 5 (uimm.extractLsb' 6 1)
      ||| place 16 2 rd ||| place 16 0 0b00#2)
  | .cLwsp rd uimm =>
    .half (place 16 13 0b010#3 ||| place 16 12 (uimm.extractLsb' 5 1) ||| place 16 7 rd
      ||| place 16 4 (uimm.extractLsb' 2 3) ||| place 16 2 (uimm.extractLsb' 6 2)
      ||| place 16 0 0b10#2)
  | .cLd rd rs1 uimm =>
    .half (place 16 13 0b011#3 ||| place 16 10 (uimm.extractLsb' 3 3) ||| place 16 7 rs1
      ||| place 16 5 (uimm.extractLsb' 6 2) ||| place 16 2 rd ||| place 16 0 0b00#2)
  | .cLdsp rd uimm =>
    .half (place 16 13 0b011#3 ||| place 16 12 (uimm.extractLsb' 5 1) ||| place 16 7 rd
      ||| place 16 5 (uimm.extractLsb' 3 2) ||| place 16 2 (uimm.extractLsb' 6 3)
      ||| place 16 0 0b10#2)
  | .cSw rs1 rs2 uimm =>
    .half (place 16 13 0b110#3 ||| place 16 10 (uimm.extractLsb' 3 3) ||| place 16 7 rs1
      ||| place 16 6 (uimm.extractLsb' 2 1) ||| place 16 5 (uimm.extractLsb' 6 1)
      ||| place 16 2 rs2 ||| place 16 0 0b00#2)
  | .cSwsp rs2 uimm => .half (place 16 13 0b110#3 ||| place 16 9 (uimm.extractLsb' 2 4)
      ||| place 16 7 (uimm.extractLsb' 6 2) ||| place 16 2 rs2 ||| place 16 0 0b10#2)
  | .cSd rs1 rs2 uimm =>
    .half (place 16 13 0b111#3 ||| place 16 10 (uimm.extractLsb' 3 3) ||| place 16 7 rs1
      ||| place 16 5 (uimm.extractLsb' 6 2) ||| place 16 2 rs2 ||| place 16 0 0b00#2)
  | .cSdsp rs2 uimm => .half (place 16 13 0b111#3 ||| place 16 10 (uimm.extractLsb' 3 3)
      ||| place 16 7 (uimm.extractLsb' 6 3) ||| place 16 2 rs2 ||| place 16 0 0b10#2)
  | .cAdd rd rs2 =>
    .half (place 16 13 0b100#3 ||| place 16 12 0b1#1 ||| place 16 7 rd ||| place 16 2 rs2
      ||| place 16 0 0b10#2)
  | .cAddw rd rs2 =>
    .half (place 16 13 0b100#3 ||| place 16 10 0b111#3 ||| place 16 7 rd ||| place 16 5 0b01#2
      ||| place 16 2 rs2 ||| place 16 0 0b01#2)
  | .cAddi rd imm =>
    .half (place 16 13 0b000#3 ||| place 16 12 (imm.extractLsb' 5 1) ||| place 16 7 rd
      ||| place 16 2 (imm.extractLsb' 0 5) ||| place 16 0 0b01#2)
  | .cAddiw rd imm =>
    .half (place 16 13 0b001#3 ||| place 16 12 (imm.extractLsb' 5 1) ||| place 16 7 rd
      ||| place 16 2 (imm.extractLsb' 0 5) ||| place 16 0 0b01#2)
  | .cAddi16sp imm =>
    .half (place 16 13 0b011#3 ||| place 16 12 (imm.extractLsb' 9 1) ||| place 16 7 0b00010#5
      ||| place 16 6 (imm.extractLsb' 4 1) ||| place 16 5 (imm.extractLsb' 6 1)
      ||| place 16 3 (imm.extractLsb' 7 2) ||| place 16 2 (imm.extractLsb' 5 1)
      ||| place 16 0 0b01#2)
  | .cAddi4spn rd uimm => .half (place 16 13 0b000#3 ||| place 16 11 (uimm.extractLsb' 4 2)
      ||| place 16 7 (uimm.extractLsb' 6 4) ||| place 16 6 (uimm.extractLsb' 2 1)
      ||| place 16 5 (uimm.extractLsb' 3 1) ||| place 16 2 rd ||| place 16 0 0b00#2)
  | .cLi rd imm =>
    .half (place 16 13 0b010#3 ||| place 16 12 (imm.extractLsb' 5 1) ||| place 16 7 rd
      ||| place 16 2 (imm.extractLsb' 0 5) ||| place 16 0 0b01#2)
  | .cLui rd imm =>
    .half (place 16 13 0b011#3 ||| place 16 12 (imm.extractLsb' 5 1) ||| place 16 7 rd
      ||| place 16 2 (imm.extractLsb' 0 5) ||| place 16 0 0b01#2)
  | .cMv rd rs2 =>
    .half (place 16 13 0b100#3 ||| place 16 12 0b0#1 ||| place 16 7 rd ||| place 16 2 rs2
      ||| place 16 0 0b10#2)
  | .cSub rd rs2 =>
    .half (place 16 13 0b100#3 ||| place 16 10 0b011#3 ||| place 16 7 rd ||| place 16 5 0b00#2
      ||| place 16 2 rs2 ||| place 16 0 0b01#2)
  | .cSlli rd shamt =>
    .half (place 16 13 0b000#3 ||| place 16 12 (shamt.extractLsb' 5 1) ||| place 16 7 rd
      ||| place 16 2 (shamt.extractLsb' 0 5) ||| place 16 0 0b10#2)
  | .cBeqz rs1 imm => .half (place 16 13 0b110#3 ||| place 16 12 (imm.extractLsb' 8 1)
      ||| place 16 10 (imm.extractLsb' 3 2) ||| place 16 7 rs1
      ||| place 16 5 (imm.extractLsb' 6 2) ||| place 16 3 (imm.extractLsb' 1 2)
      ||| place 16 2 (imm.extractLsb' 5 1) ||| place 16 0 0b01#2)
  | .cBnez rs1 imm => .half (place 16 13 0b111#3 ||| place 16 12 (imm.extractLsb' 8 1)
      ||| place 16 10 (imm.extractLsb' 3 2) ||| place 16 7 rs1
      ||| place 16 5 (imm.extractLsb' 6 2) ||| place 16 3 (imm.extractLsb' 1 2)
      ||| place 16 2 (imm.extractLsb' 5 1) ||| place 16 0 0b01#2)
  | .cJ imm => .half (place 16 13 0b101#3 ||| place 16 12 (imm.extractLsb' 11 1)
      ||| place 16 11 (imm.extractLsb' 4 1) ||| place 16 9 (imm.extractLsb' 8 2)
      ||| place 16 8 (imm.extractLsb' 10 1) ||| place 16 7 (imm.extractLsb' 6 1)
      ||| place 16 6 (imm.extractLsb' 7 1) ||| place 16 3 (imm.extractLsb' 1 3)
      ||| place 16 2 (imm.extractLsb' 5 1) ||| place 16 0 0b01#2)
  | .cJr rs1 =>
    .half (place 16 13 0b100#3 ||| place 16 12 0b0#1 ||| place 16 7 rs1 ||| place 16 2 0b00000#5
      ||| place 16 0 0b10#2)
  | .cJal imm => .half (place 16 13 0b001#3 ||| place 16 12 (imm.extractLsb' 11 1)
      ||| place 16 11 (imm.extractLsb' 4 1) ||| place 16 9 (imm.extractLsb' 8 2)
      ||| place 16 8 (imm.extractLsb' 10 1) ||| place 16 7 (imm.extractLsb' 6 1)
      ||| place 16 6 (imm.extractLsb' 7 1) ||| place 16 3 (imm.extractLsb' 1 3)
      ||| place 16 2 (imm.extractLsb' 5 1) ||| place 16 0 0b01#2)
  | .cJalr rs1 =>
    .half (place 16 13 0b100#3 ||| place 16 12 0b1#1 ||| place 16 7 rs1 ||| place 16 2 0b00000#5
      ||| place 16 0 0b10#2)
  | .cEbreak => .half (place 16 13 0b100#3 ||| place 16 2 0b10000000000#11 ||| place 16 0 0b10#2)
  | .cNop => .half (place 16 13 0b000#3 ||| place 16 2 0b00000000000#11 ||| place 16 0 0b01#2)
  | .cSrli rd shamt =>
    .half (place 16 13 0b100#3 ||| place 16 12 (shamt.extractLsb' 5 1) ||| place 16 10 0b00#2
      ||| place 16 7 rd ||| place 16 2 (shamt.extractLsb' 0 5) ||| place 16 0 0b01#2)
  | .cSrai rd shamt =>
    .half (place 16 13 0b100#3 ||| place 16 12 (shamt.extractLsb' 5 1) ||| place 16 10 0b01#2
      ||| place 16 7 rd ||| place 16 2 (shamt.extractLsb' 0 5) ||| place 16 0 0b01#2)
  | .cAndi rd imm =>
    .half (place 16 13 0b100#3 ||| place 16 12 (imm.extractLsb' 5 1) ||| place 16 10 0b10#2
      ||| place 16 7 rd ||| place 16 2 (imm.extractLsb' 0 5) ||| place 16 0 0b01#2)
  | .cXor rd rs2 =>
    .half (place 16 13 0b100#3 ||| place 16 10 0b011#3 ||| place 16 7 rd ||| place 16 5 0b01#2
      ||| place 16 2 rs2 ||| place 16 0 0b01#2)
  | .cOr rd rs2 =>
    .half (place 16 13 0b100#3 ||| place 16 10 0b011#3 ||| place 16 7 rd ||| place 16 5 0b10#2
      ||| place 16 2 rs2 ||| place 16 0 0b01#2)
  | .cAnd rd rs2 =>
    .half (place 16 13 0b100#3 ||| place 16 10 0b011#3 ||| place 16 7 rd ||| place 16 5 0b11#2
      ||| place 16 2 rs2 ||| place 16 0 0b01#2)
  | .cSubw rd rs2 =>
    .half (place 16 13 0b100#3 ||| place 16 10 0b111#3 ||| place 16 7 rd ||| place 16 5 0b00#2
      ||| place 16 2 rs2 ||| place 16 0 0b01#2)
  | .cFlw rd rs1 uimm =>
    .half (place 16 13 0b011#3 ||| place 16 10 (uimm.extractLsb' 3 3) ||| place 16 7 rs1
      ||| place 16 6 (uimm.extractLsb' 2 1) ||| place 16 5 (uimm.extractLsb' 6 1)
      ||| place 16 2 rd ||| place 16 0 0b00#2)
  | .cFlwsp rd uimm =>
    .half (place 16 13 0b011#3 ||| place 16 12 (uimm.extractLsb' 5 1) ||| place 16 7 rd
      ||| place 16 4 (uimm.extractLsb' 2 3) ||| place 16 2 (uimm.extractLsb' 6 2)
      ||| place 16 0 0b10#2)
  | .cFsw rs1 rs2 uimm =>
    .half (place 16 13 0b111#3 ||| place 16 10 (uimm.extractLsb' 3 3) ||| place 16 7 rs1
      ||| place 16 6 (uimm.extractLsb' 2 1) ||| place 16 5 (uimm.extractLsb' 6 1)
      ||| place 16 2 rs2 ||| place 16 0 0b00#2)
  | .cFswsp rs2 uimm => .half (place 16 13 0b111#3 ||| place 16 9 (uimm.extractLsb' 2 4)
      ||| place 16 7 (uimm.extractLsb' 6 2) ||| place 16 2 rs2 ||| place 16 0 0b10#2)
  | .cFld rd rs1 uimm =>
    .half (place 16 13 0b001#3 ||| place 16 10 (uimm.extractLsb' 3 3) ||| place 16 7 rs1
      ||| place 16 5 (uimm.extractLsb' 6 2) ||| place 16 2 rd ||| place 16 0 0b00#2)
  | .cFldsp rd uimm =>
    .half (place 16 13 0b001#3 ||| place 16 12 (uimm.extractLsb' 5 1) ||| place 16 7 rd
      ||| place 16 5 (uimm.extractLsb' 3 2) ||| place 16 2 (uimm.extractLsb' 6 3)
      ||| place 16 0 0b10#2)
  | .cFsd rs1 rs2 uimm =>
    .half (place 16 13 0b101#3 ||| place 16 10 (uimm.extractLsb' 3 3) ||| place 16 7 rs1
      ||| place 16 5 (uimm.extractLsb' 6 2) ||| place 16 2 rs2 ||| place 16 0 0b00#2)
  | .cFsdsp rs2 uimm => .half (place 16 13 0b101#3 ||| place 16 10 (uimm.extractLsb' 3 3)
      ||| place 16 7 (uimm.extractLsb' 6 3) ||| place 16 2 rs2 ||| place 16 0 0b10#2)
  | .mul rd rs1 rs2 => .word (mkR 0b0000001#7 rs2 rs1 0b000#3 rd 0b0110011#7)
  | .mulh rd rs1 rs2 => .word (mkR 0b0000001#7 rs2 rs1 0b001#3 rd 0b0110011#7)
  | .mulhsu rd rs1 rs2 => .word (mkR 0b0000001#7 rs2 rs1 0b010#3 rd 0b0110011#7)
  | .mulhu rd rs1 rs2 => .word (mkR 0b0000001#7 rs2 rs1 0b011#3 rd 0b0110011#7)
  | .div rd rs1 rs2 => .word (mkR 0b0000001#7 rs2 rs1 0b100#3 rd 0b0110011#7)
  | .divu rd rs1 rs2 => .word (mkR 0b0000001#7 rs2 rs1 0b101#3 rd 0b0110011#7)
  | .rem rd rs1 rs2 => .word (mkR 0b0000001#7 rs2 rs1 0b110#3 rd 0b0110011#7)
  | .remu rd rs1 rs2 => .word (mkR 0b0000001#7 rs2 rs1 0b111#3 rd 0b0110011#7)
  | .mulw rd rs1 rs2 => .word (mkR 0b0000001#7 rs2 rs1 0b000#3 rd 0b0111011#7)
  | .divw rd rs1 rs2 => .word (mkR 0b0000001#7 rs2 rs1 0b100#3 rd 0b0111011#7)
  | .divuw rd rs1 rs2 => .word (mkR 0b0000001#7 rs2 rs1 0b101#3 rd 0b0111011#7)
  | .remw rd rs1 rs2 => .word (mkR 0b0000001#7 rs2 rs1 0b110#3 rd 0b0111011#7)
  | .remuw rd rs1 rs2 => .word (mkR 0b0000001#7 rs2 rs1 0b111#3 rd 0b0111011#7)
  | .lrW rd rs1 aq rl => .word (mkAmo 0b00010#5 aq rl 0#5 rs1 0b010#3 rd)
  | .scW rd rs1 rs2 aq rl => .word (mkAmo 0b00011#5 aq rl rs2 rs1 0b010#3 rd)
  | .amoswapW rd rs1 rs2 aq rl => .word (mkAmo 0b00001#5 aq rl rs2 rs1 0b010#3 rd)
  | .amoaddW rd rs1 rs2 aq rl => .word (mkAmo 0b00000#5 aq rl rs2 rs1 0b010#3 rd)
  | .amoxorW rd rs1 rs2 aq rl => .word (mkAmo 0b00100#5 aq rl rs2 rs1 0b010#3 rd)
  | .amoandW rd rs1 rs2 aq rl => .word (mkAmo 0b01100#5 aq rl rs2 rs1 0b010#3 rd)
  | .amoorW rd rs1 rs2 aq rl => .word (mkAmo 0b01000#5 aq rl rs2 rs1 0b010#3 rd)
  | .amominW rd rs1 rs2 aq rl => .word (mkAmo 0b10000#5 aq rl rs2 rs1 0b010#3 rd)
  | .amomaxW rd rs1 rs2 aq rl => .word (mkAmo 0b10100#5 aq rl rs2 rs1 0b010#3 rd)
  | .amominuW rd rs1 rs2 aq rl => .word (mkAmo 0b11000#5 aq rl rs2 rs1 0b010#3 rd)
  | .amomaxuW rd rs1 rs2 aq rl => .word (mkAmo 0b11100#5 aq rl rs2 rs1 0b010#3 rd)
  | .lrD rd rs1 aq rl => .word (mkAmo 0b00010#5 aq rl 0#5 rs1 0b011#3 rd)
  | .scD rd rs1 rs2 aq rl => .word (mkAmo 0b00011#5 aq rl rs2 rs1 0b011#3 rd)
  | .amoswapD rd rs1 rs2 aq rl => .word (mkAmo 0b00001#5 aq rl rs2 rs1 0b011#3 rd)
  | .amoaddD rd rs1 rs2 aq rl => .word (mkAmo 0b00000#5 aq rl rs2 rs1 0b011#3 rd)
  | .amoxorD rd rs1 rs2 aq rl => .word (mkAmo 0b00100#5 aq rl rs2 rs1 0b011#3 rd)
  | .amoandD rd rs1 rs2 aq rl => .word (mkAmo 0b01100#5 aq rl rs2 rs1 0b011#3 rd)
  | .amoorD rd rs1 rs2 aq rl => .word (mkAmo 0b01000#5 aq rl rs2 rs1 0b011#3 rd)
  | .amominD rd rs1 rs2 aq rl => .word (mkAmo 0b10000#5 aq rl rs2 rs1 0b011#3 rd)
  | .amomaxD rd rs1 rs2 aq rl => .word (mkAmo 0b10100#5 aq rl rs2 rs1 0b011#3 rd)
  | .amominuD rd rs1 rs2 aq rl => .word (mkAmo 0b11000#5 aq rl rs2 rs1 0b011#3 rd)
  | .amomaxuD rd rs1 rs2 aq rl => .word (mkAmo 0b11100#5 aq rl rs2 rs1 0b011#3 rd)
  | .fmvSX rd rs1 => .word (mkR4 0b11110#5 0b00#2 0#5 rs1 0b000#3 rd 0b1010011#7)
  | .fmvXS rd rs1 => .word (mkR4 0b11100#5 0b00#2 0#5 rs1 0b000#3 rd 0b1010011#7)
  | .fmvDX rd rs1 => .word (mkR4 0b11110#5 0b01#2 0#5 rs1 0b000#3 rd 0b1010011#7)
  | .fmvXD rd rs1 => .word (mkR4 0b11100#5 0b01#2 0#5 rs1 0b000#3 rd 0b1010011#7)
  | .flw rd rs1 imm => .word (mkI imm rs1 0b010#3 rd 0b0000111#7)
  | .fsw rs1 rs2 imm => .word (mkS imm rs2 rs1 0b010#3 0b0100111#7)
  | .fld rd rs1 imm => .word (mkI imm rs1 0b011#3 rd 0b0000111#7)
  | .fsd rs1 rs2 imm => .word (mkS imm rs2 rs1 0b011#3 0b0100111#7)
  | .flq rd rs1 imm => .word (mkI imm rs1 0b100#3 rd 0b0000111#7)
  | .fsq rs1 rs2 imm => .word (mkS imm rs2 rs1 0b100#3 0b0100111#7)
  | .fcvtSW rd rs1 rm => .word (mkR4 0b11010#5 0b00#2 0#5 rs1 rm rd 0b1010011#7)
  | .fcvtDW rd rs1 rm => .word (mkR4 0b11010#5 0b01#2 0#5 rs1 rm rd 0b1010011#7)
  | .fcvtQW rd rs1 rm => .word (mkR4 0b11010#5 0b11#2 0#5 rs1 rm rd 0b1010011#7)
  | .fcvtSWU rd rs1 rm => .word (mkR4 0b11010#5 0b00#2 1#5 rs1 rm rd 0b1010011#7)
  | .fcvtDWU rd rs1 rm => .word (mkR4 0b11010#5 0b01#2 1#5 rs1 rm rd 0b1010011#7)
  | .fcvtQWU rd rs1 rm => .word (mkR4 0b11010#5 0b11#2 1#5 rs1 rm rd 0b1010011#7)
  | .fcvtSL rd rs1 rm => .word (mkR4 0b11010#5 0b00#2 2#5 rs1 rm rd 0b1010011#7)
  | .fcvtDL rd rs1 rm => .word (mkR4 0b11010#5 0b01#2 2#5 rs1 rm rd 0b1010011#7)
  | .fcvtQL rd rs1 rm => .word (mkR4 0b11010#5 0b11#2 2#5 rs1 rm rd 0b1010011#7)
  | .fcvtSLU rd rs1 rm => .word (mkR4 0b11010#5 0b00#2 3#5 rs1 rm rd 0b1010011#7)
  | .fcvtDLU rd rs1 rm => .word (mkR4 0b11010#5 0b01#2 3#5 rs1 rm rd 0b1010011#7)
  | .fcvtQLU rd rs1 rm => .word (mkR4 0b11010#5 0b11#2 3#5 rs1 rm rd 0b1010011#7)
  | .fcvtWS rd rs1 rm => .word (mkR4 0b11000#5 0b00#2 0#5 rs1 rm rd 0b1010011#7)
  | .fcvtWD rd rs1 rm => .word (mkR4 0b11000#5 0b01#2 0#5 rs1 rm rd 0b1010011#7)
  | .fcvtWQ rd rs1 rm => .word (mkR4 0b11000#5 0b11#2 0#5 rs1 rm rd 0b1010011#7)
  | .fcvtWUS rd rs1 rm => .word (mkR4 0b11000#5 0b00#2 1#5 rs1 rm rd 0b1010011#7)
  | .fcvtWUD rd rs1 rm => .word (mkR4 0b11000#5 0b01#2 1#5 rs1 rm rd 0b1010011#7)
  | .fcvtWUQ rd rs1 rm => .word (mkR4 0b11000#5 0b11#2 1#5 rs1 rm rd 0b1010011#7)
  | .fcvtLS rd rs1 rm => .word (mkR4 0b11000#5 0b00#2 2#5 rs1 rm rd 0b1010011#7)
  | .fcvtLD rd rs1 rm => .word (mkR4 0b11000#5 0b01#2 2#5 rs1 rm rd 0b1010011#7)
  | .fcvtLQ rd rs1 rm => .word (mkR4 0b11000#5 0b11#2 2#5 rs1 rm rd 0b1010011#7)
  | .fcvtLUS rd rs1 rm => .word (mkR4 0b11000#5 0b00#2 3#5 rs1 rm rd 0b1010011#7)
  | .fcvtLUD rd rs1 rm => .word (mkR4 0b11000#5 0b01#2 3#5 rs1 rm rd 0b1010011#7)
  | .fcvtLUQ rd rs1 rm => .word (mkR4 0b11000#5 0b11#2 3#5 rs1 rm rd 0b1010011#7)
  | .fcvtSD rd rs1 rm => .word (mkR4 0b01000#5 0b00#2 1#5 rs1 rm rd 0b1010011#7)
  | .fcvtDS rd rs1 rm => .word (mkR4 0b01000#5 0b01#2 0#5 rs1 rm rd 0b1010011#7)
  | .fcvtSQ rd rs1 rm => .word (mkR4 0b01000#5 0b00#2 3#5 rs1 rm rd 0b1010011#7)
  | .fcvtQS rd rs1 rm => .word (mkR4 0b01000#5 0b11#2 0#5 rs1 rm rd 0b1010011#7)
  | .fcvtDQ rd rs1 rm => .word (mkR4 0b01000#5 0b01#2 3#5 rs1 rm rd 0b1010011#7)
  | .fcvtQD rd rs1 rm => .word (mkR4 0b01000#5 0b11#2 1#5 rs1 rm rd 0b1010011#7)
  | .faddS rd rs1 rs2 rm => .word (mkR4 0b00000#5 0b00#2 rs2 rs1 rm rd 0b1010011#7)
  | .faddD rd rs1 rs2 rm => .word (mkR4 0b00000#5 0b01#2 rs2 rs1 rm rd 0b1010011#7)
  | .faddQ rd rs1 rs2 rm => .word (mkR4 0b00000#5 0b11#2 rs2 rs1 rm rd 0b1010011#7)
  | .fsubS rd rs1 rs2 rm => .word (mkR4 0b00001#5 0b00#2 rs2 rs1 rm rd 0b1010011#7)
  | .fsubD rd rs1 rs2 rm => .word (mkR4 0b00001#5 0b01#2 rs2 rs1 rm rd 0b1010011#7)
  | .fsubQ rd rs1 rs2 rm => .word (mkR4 0b00001#5 0b11#2 rs2 rs1 rm rd 0b1010011#7)
  | .fmulS rd rs1 rs2 rm => .word (mkR4 0b00010#5 0b00#2 rs2 rs1 rm rd 0b1010011#7)
  | .fmulD rd rs1 rs2 rm => .word (mkR4 0b00010#5 0b01#2 rs2 rs1 rm rd 0b1010011#7)
  | .fmulQ rd rs1 rs2 rm => .word (mkR4 0b00010#5 0b11#2 rs2 rs1 rm rd 0b1010011#7)
  | .fdivS rd rs1 rs2 rm => .word (mkR4 0b00011#5 0b00#2 rs2 rs1 rm rd 0b1010011#7)
  | .fdivD rd rs1 rs2 rm => .word (mkR4 0b00011#5 0b01#2 rs2 rs1 rm rd 0b1010011#7)
  | .fdivQ rd rs1 rs2 rm => .word (mkR4 0b00011#5 0b11#2 rs2 rs1 rm rd 0b1010011#7)
  | .fsqrtS rd rs1 rm => .word (mkR4 0b01011#5 0b00#2 0#5 rs1 rm rd 0b1010011#7)
  | .fsqrtD rd rs1 rm => .word (mkR4 0b01011#5 0b01#2 0#5 rs1 rm rd 0b1010011#7)
  | .fsqrtQ rd rs1 rm => .word (mkR4 0b01011#5 0b11#2 0#5 rs1 rm rd 0b1010011#7)
  | .fmaddS rd rs1 rs2 rs3 rm => .word (mkR4 rs3 0b00#2 rs2 rs1 rm rd 0b1000011#7)
  | .fmaddD rd rs1 rs2 rs3 rm => .word (mkR4 rs3 0b01#2 rs2 rs1 rm rd 0b1000011#7)
  | .fmaddQ rd rs1 rs2 rs3 rm => .word (mkR4 rs3 0b11#2 rs2 rs1 rm rd 0b1000011#7)
  | .fmsubS rd rs1 rs2 rs3 rm => .word (mkR4 rs3 0b00#2 rs2 rs1 rm rd 0b1000111#7)
  | .fmsubD rd rs1 rs2 rs3 rm => .word (mkR4 rs3 0b01#2 rs2 rs1 rm rd 0b1000111#7)
  | .fmsubQ rd rs1 rs2 rs3 rm => .word (mkR4 rs3 0b11#2 rs2 rs1 rm rd 0b1000111#7)
  | .fnmsubS rd rs1 rs2 rs3 rm => .word (mkR4 rs3 0b00#2 rs2 rs1 rm rd 0b1001011#7)
  | .fnmsubD rd rs1 rs2 rs3 rm => .word (mkR4 rs3 0b01#2 rs2 rs1 rm rd 0b1001011#7)
  | .fnmsubQ rd rs1 rs2 rs3 rm => .word (mkR4 rs3 0b11#2 rs2 rs1 rm rd 0b1001011#7)
  | .fnmaddS rd rs1 rs2 rs3 rm => .word (mkR4 rs3 0b00#2 rs2 rs1 rm rd 0b1001111#7)
  | .fnmaddD rd rs1 rs2 rs3 rm => .word (mkR4 rs3 0b01#2 rs2 rs1 rm rd 0b1001111#7)
  | .fnmaddQ rd rs1 rs2 rs3 rm => .word (mkR4 rs3 0b11#2 rs2 rs1 rm rd 0b1001111#7)
  | .fsgnjS rd rs1 rs2 => .word (mkR4 0b00100#5 0b00#2 rs2 rs1 0b000#3 rd 0b1010011#7)
  | .fsgnjD rd rs1 rs2 => .word (mkR4 0b00100#5 0b01#2 rs2 rs1 0b000#3 rd 0b1010011#7)
  | .fsgnjQ rd rs1 rs2 => .word (mkR4 0b00100#5 0b11#2 rs2 rs1 0b000#3 rd 0b1010011#7)
  | .fsgnjnS rd rs1 rs2 => .word (mkR4 0b00100#5 0b00#2 rs2 rs1 0b001#3 rd 0b1010011#7)
  | .fsgnjnD rd rs1 rs2 => .word (mkR4 0b00100#5 0b01#2 rs2 rs1 0b001#3 rd 0b1010011#7)
  | .fsgnjnQ rd rs1 rs2 => .word (mkR4 0b00100#5 0b11#2 rs2 rs1 0b001#3 rd 0b1010011#7)
  | .fsgnjxS rd rs1 rs2 => .word (mkR4 0b00100#5 0b00#2 rs2 rs1 0b010#3 rd 0b1010011#7)
  | .fsgnjxD rd rs1 rs2 => .word (mkR4 0b00100#5 0b01#2 rs2 rs1 0b010#3 rd 0b1010011#7)
  | .fsgnjxQ rd rs1 rs2 => .word (mkR4 0b00100#5 0b11#2 rs2 rs1 0b010#3 rd 0b1010011#7)
  | .fminS rd rs1 rs2 => .word (mkR4 0b00101#5 0b00#2 rs2 rs1 0b000#3 rd 0b1010011#7)
  | .fminD rd rs1 rs2 => .word (mkR4 0b00101#5 0b01#2 rs2 rs1 0b000#3 rd 0b1010011#7)
  | .fminQ rd rs1 rs2 => .word (mkR4 0b00101#5 0b11#2 rs2 rs1 0b000#3 rd 0b1010011#7)
  | .fmaxS rd rs1 rs2 => .word (mkR4 0b00101#5 0b00#2 rs2 rs1 0b001#3 rd 0b1010011#7)
  | .fmaxD rd rs1 rs2 => .word (mkR4 0b00101#5 0b01#2 rs2 rs1 0b001#3 rd 0b1010011#7)
  | .fmaxQ rd rs1 rs2 => .word (mkR4 0b00101#5 0b11#2 rs2 rs1 0b001#3 rd 0b1010011#7)
  | .feqS rd rs1 rs2 => .word (mkR4 0b10100#5 0b00#2 rs2 rs1 0b010#3 rd 0b1010011#7)
  | .feqD rd rs1 rs2 => .word (mkR4 0b10100#5 0b01#2 rs2 rs1 0b010#3 rd 0b1010011#7)
  | .feqQ rd rs1 rs2 => .word (mkR4 0b10100#5 0b11#2 rs2 rs1 0b010#3 rd 0b1010011#7)
  | .fltS rd rs1 rs2 => .word (mkR4 0b10100#5 0b00#2 rs2 rs1 0b001#3 rd 0b1010011#7)
  | .fltD rd rs1 rs2 => .word (mkR4 0b10100#5 0b01#2 rs2 rs1 0b001#3 rd 0b1010011#7)
  | .fltQ rd rs1 rs2 => .word (mkR4 0b10100#5 0b11#2 rs2 rs1 0b001#3 rd 0b1010011#7)
  | .fleS rd rs1 rs2 => .word (mkR4 0b10100#5 0b00#2 rs2 rs1 0b000#3 rd 0b1010011#7)
  | .fleD rd rs1 rs2 => .word (mkR4 0b10100#5 0b01#2 rs2 rs1 0b000#3 rd 0b1010011#7)
  | .fleQ rd rs1 rs2 => .word (mkR4 0b10100#5 0b11#2 rs2 rs1 0b000#3 rd 0b1010011#7)
  | .fclassS rd rs1 => .word (mkR4 0b11100#5 0b00#2 0#5 rs1 0b001#3 rd 0b1010011#7)
  | .fclassD rd rs1 => .word (mkR4 0b11100#5 0b01#2 0#5 rs1 0b001#3 rd 0b1010011#7)
  | .fclassQ rd rs1 => .word (mkR4 0b11100#5 0b11#2 0#5 rs1 0b001#3 rd 0b1010011#7)
  | .frcsr rd => .word (mkI 0x003#12 0#5 0b010#3 rd 0b1110011#7)
  | .frrm rd => .word (mkI 0x002#12 0#5 0b010#3 rd 0b1110011#7)
  | .frflags rd => .word (mkI 0x001#12 0#5 0b010#3 rd 0b1110011#7)
  | .fscsr rd rs1 => .word (mkI 0x003#12 rs1 0b001#3 rd 0b1110011#7)
  | .fsrm rd rs1 => .word (mkI 0x002#12 rs1 0b001#3 rd 0b1110011#7)
  | .fsflags rd rs1 => .word (mkI 0x001#12 rs1 0b001#3 rd 0b1110011#7)
  | .fsrmi rd zimm => .word (mkI 0x002#12 zimm 0b101#3 rd 0b1110011#7)
  | .fsflagsi rd zimm => .word (mkI 0x001#12 zimm 0b101#3 rd 0b1110011#7)

/-- An instruction's bytes in memory, first byte first (R62). -/
def Encoded.bytes : Encoded → List Byte
  | .half h => [h.extractLsb' 0 8, h.extractLsb' 8 8]
  | .word w => [w.extractLsb' 0 8, w.extractLsb' 8 8, w.extractLsb' 16 8, w.extractLsb' 24 8]

/-- `ilen`: the length of an instruction in bytes (R26, R90). -/
def Encoded.size : Encoded → Nat
  | .half _ => 2
  | .word _ => 4

/-- The configuration an isolated table word is decoded under: the standard one, but RV32 where the
word has a row at no other width (log entry 4). -/
def configFor (bytes : List Byte) : Config :=
  match decodeBytes Config.standard bytes with
  | some (.ok _, _) => Config.standard
  | _ =>
    match decodeBytes { Config.standard with xlen := .rv32 } bytes with
    | some (.ok _, _) => { Config.standard with xlen := .rv32 }
    | _ => Config.standard

/-- The four bytes from bit 0 of `w` up, of which only the low `nbits` bits are kept. -/
def tableBytes (nbits w : Nat) : List Byte :=
  let v := BitVec.ofNat 32 (w % 2 ^ nbits)
  [v.extractLsb' 0 8, v.extractLsb' 8 8, v.extractLsb' 16 8, v.extractLsb' 24 8]

/-- The instruction the decoder reads from a table word `w` of `nbits` bits. -/
def decodeTableWord (nbits w : Nat) : Option Instr :=
  let bytes := tableBytes nbits w
  match decodeBytes (configFor bytes) bytes with
  | some (.ok i, _) => some i
  | _ => none

end Sys2Proof
end

