-- ==== Sys2Proof/Machine/State.lean ====
section
/-! DEFINITION. The state of the machine (10_state.md, rule R46), the reasons a step can stop, and
the state after reset. -/

namespace Sys2Proof.Machine

/-- The nine exceptions (R500). Each is terminal (R502): the step ends in it and nothing has
changed (R501). Safe: the spec itself ends the run here and gives no trap entry (R512). -/
inductive Fault where
  /-- Raised by a taken branch, JAL or JALR whose target `t` is not `IALIGN`-aligned (R143). Safe. -/
  | instructionAddressMisaligned (t : Word)
  /-- Raised by a fetch at `pc` when a byte is absent or not executable (R77). Safe. -/
  | instructionAccessFault (pc : Word)
  /-- Raised by decoding and by an invalid CSR access or rounding mode (R504). Safe. -/
  | illegalInstruction (word : BitVec 32)
  /-- Raised by SBREAK, EBREAK and C.EBREAK (R503). Safe. -/
  | breakpoint (pc : Word)
  /-- Raised by a misaligned load under `MISALIGNED = trap` and by a misaligned LR (R64). Safe. -/
  | loadAddressMisaligned (a : Word)
  /-- Raised by a load or LR when a byte is absent or not readable (R66). Safe. -/
  | loadAccessFault (a : Word)
  /-- Raised by a misaligned store under `MISALIGNED = trap` and by a misaligned SC or AMO (R505). Safe. -/
  | storeAddressMisaligned (a : Word)
  /-- Raised by a store, SC or AMO when a byte is absent or not permitted (R66, R505). Safe. -/
  | storeAccessFault (a : Word)
  /-- Raised by SCALL and ECALL (R503). Safe. -/
  | environmentCall
deriving DecidableEq, Repr

/-- The reasons to refuse (R515): behaviour the sources name and do not define. -/
inductive Refusal where
  /-- Raised by the dispatch of an instruction that has no meaning yet: none. Safe. -/
  | notModelled (mnemonic : String)
  /-- Raised by ERET, MRTS, MRTH, HRTS, SFENCE.VM, and WFI under `WFI_MODE = refuse` (R235). Safe. -/
  | privileged (name : String)
  /-- Raised by a fetch of a byte written since the last FENCE.I (R75, R77). Safe. -/
  | staleFetch
  /-- Raised by a launch outside the parameters of R9, never by a step (R515). Safe. -/
  | unsupported (parameter : String)
  /-- Raised by naming a mnemonic of 47_rv128_and_unencoded.md in assembly, never by a step (R515). Safe. -/
  | notEncoded (mnemonic : String)
deriving DecidableEq, Repr

/-- Memory (R42): byte values by address, addresses strictly rising, no entry equal to what an
unlisted address reads as (`Memory.unlisted`). -/
abbrev Memory := List Host.Cell

/-- A load reservation `valid(addr, size)` (R43). -/
structure Reservation where
  addr : Word
  size : Nat
deriving DecidableEq, Repr

/-- The state. The last three fields are the model's own, not the spec's: what the two counters
last delivered (R34, R35 make the next draw no smaller) and how many draws have been taken. -/
structure State where
  /-- The parameters of R9, fixed for a run (R47); no step changes them (log entry 1). -/
  cfg : Config
  /-- `x0` to `x31` (R20); entry 0 is never read or written (R21). -/
  x : Vector Word 32
  /-- The program counter (R25). -/
  pc : Word
  /-- `f0` to `f31` (R40). -/
  f : Vector FWord 32
  /-- `fcsr`: `frm` in bits 7:5, `fflags` in bits 4:0 (R37 to R39). -/
  fcsr : BitVec 8
  /-- `instret` (R36). -/
  instret : BitVec 64
  /-- Memory (R42). -/
  mem : Memory
  /-- The load reservation (R43). -/
  reservation : Option Reservation
  /-- `stale`, strictly rising addresses (R44). -/
  stale : List Nat
  /-- The values of the CSRs of `CsrExtra`, by number; one not listed reads as zero (R32). -/
  extraCsrs : List (BitVec 12 × Word)
  /-- The value the last read of `cycle` delivered. -/
  cycleLast : BitVec 64
  /-- The value the last read of `time` delivered. -/
  timeLast : BitVec 64
  /-- How many draws the steps so far have taken. -/
  draws : Nat
deriving DecidableEq, Repr

/-- The state right after reset (R46, R541): the pc at `RESET_PC`, no reservation, nothing stale;
every register the spec leaves to the launch is zero (DESIGN CHOICE, log entry 3). -/
def State.reset : State where
  cfg := Config.standard
  x := Vector.replicate 32 0
  pc := Config.standard.resetPc
  f := Vector.replicate 32 0
  fcsr := 0
  instret := 0
  mem := []
  reservation := none
  stale := []
  extraCsrs := []
  cycleLast := 0
  timeLast := 0
  draws := 0

end Sys2Proof.Machine
end

