-- ==== Sys2Proof/Machine/Ops.lean ====
section
/-! DEFINITION. The named operations over registers, memory and the pc, and the one way an
exception is taken (R502). -/

namespace Sys2Proof.Machine

/-- What a step or a meaning answers. -/
abbrev Res := Host.Outcome State Fault Refusal

/-! ### Values of width XLEN -/

/-- The low `XLEN` bits of a value, as a 64-bit string (R12, R28). -/
def xtrunc (x : Xlen) (v : Word) : Word :=
  match x with
  | .rv32 => (v.setWidth 32).setWidth 64
  | .rv64 => v

/-- `signed(v)` of an `XLEN`-bit value (R12). -/
def xsigned (x : Xlen) (v : Word) : Int :=
  match x with
  | .rv32 => (v.setWidth 32).toInt
  | .rv64 => v.toInt

/-- `unsigned(v)` of an `XLEN`-bit value (R12). -/
def xunsigned (x : Xlen) (v : Word) : Nat := (xtrunc x v).toNat

/-- `sext_XLEN` (R12). -/
def xsext {n : Nat} (x : Xlen) (v : BitVec n) : Word := xtrunc x (v.signExtend 64)

/-- `zext_XLEN` (R12). -/
def xzext {n : Nat} (x : Xlen) (v : BitVec n) : Word := xtrunc x (v.setWidth 64)

/-- An integer modulo 2^`XLEN` (R12). -/
def xofInt (x : Xlen) (i : Int) : Word := xtrunc x (BitVec.ofInt 64 i)

/-! ### Registers -/

/-- `x[r]`: zero for `x0` (R13, R21). -/
def State.readX (s : State) (r : RegIdx) : Word :=
  if r = 0#5 then 0#64 else xtrunc s.cfg.xlen (s.x[r.toNat]'r.isLt)

/-- `x[r] <- v`: discarded for `x0` (R13, R21). -/
def State.writeX (s : State) (r : RegIdx) (v : Word) : State :=
  if r = 0#5 then s else { s with x := s.x.set r.toNat (xtrunc s.cfg.xlen v) r.isLt }

/-- The low `n` bits of a floating-point register value. -/
def ftrunc (n : Nat) (v : FWord) : FWord := (v.setWidth n).setWidth 128

/-- `f[r]`, `FLEN` bits (R40). -/
def State.readF (s : State) (r : RegIdx) : FWord := ftrunc s.cfg.flen (s.f[r.toNat]'r.isLt)

/-- `f[r] <- v`, `FLEN` bits (R40). -/
def State.writeF (s : State) (r : RegIdx) (v : FWord) : State :=
  { s with f := s.f.set r.toNat (ftrunc s.cfg.flen v) r.isLt }

/-! ### Ending an instruction -/

/-- An instruction that completes: `pc <- pc + ilen` modulo 2^`XLEN` (R26, R28) and one more
instruction retired (R36). -/
def State.retire (s : State) (ilen : Nat) : State :=
  { s with pc := xtrunc s.cfg.xlen (s.pc + BitVec.ofNat 64 ilen), instret := s.instret + 1#64 }

/-- A control transfer that completes: `pc <- t` (R26, R143) and one more instruction retired. -/
def State.retireTo (s : State) (t : Word) : State :=
  { s with pc := xtrunc s.cfg.xlen t, instret := s.instret + 1#64 }

/-- Taking an exception, `raise E(info)` (R501, R502): the outcome `Trap(E, info)`, the state as
before the instruction. No vector is entered, no register saves the pc, a status or a cause, and no
mode changes: R512 gives the machine none of these. -/
def raise (e : Fault) : Res := .fault e

/-- `raise IllegalInstruction(word)` by an instruction already decoded (R504, causes 2 and 3). -/
def raiseIllegal (i : Instr) : Res := raise (.illegalInstruction (encode i).zext)

/-- Returning from an exception: there is nothing to return from (R513), so ERET, like the other
privileged instructions, is refused by name (R235). -/
def refusePrivileged (name : String) : Res := .refused (.privileged name)

/-- `x[rd] <- v`, then the instruction completes (R140). -/
def State.finishX (s : State) (ilen : Nat) (rd : RegIdx) (v : Word) : Res :=
  .next ((s.writeX rd v).retire ilen)

/-! ### Memory -/

/-- What a byte nothing has written reads as: zero (DESIGN CHOICE, log entry 5; R541 leaves it to
the launch). -/
def Memory.unlisted : Byte := 0#8

/-- One byte of memory. -/
def Memory.read : Memory → Nat → Byte
  | [], _ => Memory.unlisted
  | (a, b) :: rest, k => if a = k then b else Memory.read rest k

/-- Memory with the byte at `k` now `v`, in canonical form. -/
def Memory.write : Memory → Nat → Byte → Memory
  | [], k, v => if v = Memory.unlisted then [] else [(k, v)]
  | (a, b) :: rest, k, v =>
    if k < a then if v = Memory.unlisted then (a, b) :: rest else (k, v) :: (a, b) :: rest
    else if k = a then if v = Memory.unlisted then rest else (k, v) :: rest
    else (a, b) :: Memory.write rest k v

/-- The canonical form of memory: addresses strictly rising from `lo` on, no byte listed that reads
as an unlisted one. -/
def Memory.wfFrom : Nat → Memory → Bool
  | _, [] => true
  | lo, (a, b) :: rest => decide (lo ≤ a) && b != Memory.unlisted && Memory.wfFrom (a + 1) rest

/-- The canonical form of memory. -/
def Memory.wf (m : Memory) : Bool := Memory.wfFrom 0 m

/-- The address `a + k` modulo 2^`XLEN` (R28, R66). -/
def byteAddr (x : Xlen) (a : Word) (k : Nat) : Nat := (xtrunc x (a + BitVec.ofNat 64 k)).toNat

/-- One byte of memory as the machine sees it. -/
def State.readByte (s : State) (a : Nat) : Byte := s.mem.read a

/-- The value of `n` bytes at `a`, little-endian (R61). -/
def State.readBytes (s : State) (a : Word) : Nat → Nat
  | 0 => 0
  | n + 1 => s.readBytes a n + (s.readByte (byteAddr s.cfg.xlen a n)).toNat * 2 ^ (8 * n)

/-- A strictly rising list with `k` added. -/
def staleInsert (k : Nat) : List Nat → List Nat
  | [] => [k]
  | a :: rest => if k < a then k :: a :: rest else if k = a then a :: rest else a :: staleInsert k rest

/-- One byte stored: memory takes it and its address is stale for fetching (R66, R75). -/
def State.writeByte (s : State) (a : Nat) (b : Byte) : State :=
  { s with mem := s.mem.write a b, stale := staleInsert a s.stale }

/-- `n` bytes of `v` stored at `a`, little-endian (R61, R66 steps 3 and 4). -/
def State.writeBytes (s : State) (a : Word) (v : Nat) : Nat → State
  | 0 => s
  | n + 1 => (s.writeBytes a v n).writeByte (byteAddr s.cfg.xlen a n) (BitVec.ofNat 8 (v / 2 ^ (8 * n)))

/-- A permission of `MemMap` (R70). -/
inductive Access where
  | read
  | write
  | execute
deriving DecidableEq, Repr

/-- Whether a region grants a permission at an address (R70). -/
def regionAllows (r : Region) (acc : Access) (a : Nat) : Bool :=
  decide (r.base ≤ a) && decide (a < r.base + r.size) &&
    match acc with
    | .read => r.read
    | .write => r.write
    | .execute => r.execute

/-- Whether `MemMap` has the address and grants the permission there (R66, R70). -/
def State.allows (s : State) (acc : Access) (a : Nat) : Bool := s.cfg.memMap.any (regionAllows · acc a)

/-- The same for the `n` bytes from `a` up (R66). -/
def State.allowsAll (s : State) (acc : Access) (a : Word) (n : Nat) : Bool :=
  (List.range n).all fun k => s.allows acc (byteAddr s.cfg.xlen a k)

/-- `a mod n ≠ 0` (R64). -/
def misaligned (x : Xlen) (a : Word) (n : Nat) : Bool := xunsigned x a % n != 0

/-- Whether a misaligned access of `n` bytes at `a` traps (R64). -/
def State.trapsMisaligned (s : State) (a : Word) (n : Nat) : Bool :=
  s.cfg.misaligned == .trap && misaligned s.cfg.xlen a n

/-- `MemRead(a, n)` for a load, its checks in order (R64, R66); `k` receives the value. -/
def State.load (s : State) (a : Word) (n : Nat) (k : Nat → Res) : Res :=
  if s.trapsMisaligned a n then raise (.loadAddressMisaligned a)
  else if s.allowsAll .read a n then k (s.readBytes a n)
  else raise (.loadAccessFault a)

/-- `MemWrite(a, n, v)` for a store, its checks in order (R64, R66); `k` receives the state after
it. A plain store leaves the reservation (R66 step 5). -/
def State.store (s : State) (a : Word) (n : Nat) (v : Nat) (k : State → Res) : Res :=
  if s.trapsMisaligned a n then raise (.storeAddressMisaligned a)
  else if s.allowsAll .write a n then k (s.writeBytes a v n)
  else raise (.storeAccessFault a)

/-! ### Control transfer -/

/-- Whether a target is not `IALIGN`-aligned (R27, R143). -/
def State.targetMisaligned (s : State) (t : Word) : Bool := t.toNat % s.cfg.ialignBytes != 0

/-- A taken control transfer to `t` (R143, R506 step 7): a misaligned target raises before the link
is written. -/
def State.jump (s : State) (t : Word) (link : State → State) : Res :=
  if s.targetMisaligned t then raise (.instructionAddressMisaligned t)
  else .next ((link s).retireTo t)

end Sys2Proof.Machine
end

