-- ==== Sys2Proof/Machine/Operands.lean ====
section
/-! DEFINITION. The operand forms: effective addresses, pc-relative targets, shift amounts and
immediates (R101 to R107, R141 to R143). -/

namespace Sys2Proof.Machine

/-- `ea = x[rs1] + sext_XLEN(imm)` modulo 2^`XLEN` (R142). -/
def State.ea (s : State) (rs1 : RegIdx) (imm : BitVec 12) : Word :=
  xtrunc s.cfg.xlen (s.readX rs1 + xsext s.cfg.xlen imm)

/-- The effective address of a compressed access: an unsigned displacement (R250, R254). -/
def State.eaU {n : Nat} (s : State) (rs1 : RegIdx) (uimm : BitVec n) : Word :=
  xtrunc s.cfg.xlen (s.readX rs1 + xzext s.cfg.xlen uimm)

/-- `pc + sext_XLEN(imm)` modulo 2^`XLEN` (R28, R143). -/
def State.pcRel {n : Nat} (s : State) (imm : BitVec n) : Word :=
  xtrunc s.cfg.xlen (s.pc + xsext s.cfg.xlen imm)

/-- JALR's target: bit 0 cleared (R143, R192). -/
def State.jalrTarget (s : State) (rs1 : RegIdx) (imm : BitVec 12) : Word :=
  xtrunc s.cfg.xlen ((s.readX rs1 + xsext s.cfg.xlen imm) &&& ~~~1#64)

/-- The U-immediate `sext_XLEN({imm20, 12'b0})` (R104). -/
def immU (x : Xlen) (imm : BitVec 20) : Word := xsext x (place 32 12 imm)

/-- The shift amount in a register: its low `log2(XLEN)` bits (R141). -/
def State.shiftAmount (s : State) (r : RegIdx) : Nat := (s.readX r).toNat % s.cfg.xlen.bits

/-- The shift amount in a register for a `W` form: its low 5 bits (R141). -/
def State.shiftAmountW (s : State) (r : RegIdx) : Nat := (s.readX r).toNat % 32

/-- The low 32 bits of a register, the source of a `W` form (R141). -/
def State.readW (s : State) (r : RegIdx) : BitVec 32 := (s.readX r).setWidth 32

/-- A 32-bit result sign-extended to 64 bits, the result of a `W` form (R141). -/
def wordResult (v : BitVec 32) : Word := v.signExtend 64

/-! ### Shifts and comparisons at XLEN bits -/

/-- `v << n` at `XLEN` bits (R12, R155). -/
def xshl (x : Xlen) (v : Word) (n : Nat) : Word := xtrunc x (v <<< n)

/-- `v >>u n` at `XLEN` bits (R12, R157). -/
def xshr (x : Xlen) (v : Word) (n : Nat) : Word := xtrunc x v >>> n

/-- `v >>s n` at `XLEN` bits: copies of bit `XLEN-1` enter (R12, R159). -/
def xsar (x : Xlen) (v : Word) (n : Nat) : Word :=
  match x with
  | .rv32 => ((v.setWidth 32).sshiftRight n).setWidth 64
  | .rv64 => v.sshiftRight n

/-- `a <s b` (R12). -/
def xlts (x : Xlen) (a b : Word) : Bool := decide (xsigned x a < xsigned x b)

/-- `a <u b` (R12). -/
def xltu (x : Xlen) (a b : Word) : Bool := decide (xunsigned x a < xunsigned x b)

/-- `1` or `0`, the result of a comparison (R181). -/
def boolWord (b : Bool) : Word := if b then 1#64 else 0#64

end Sys2Proof.Machine
end

