-- ==== Sys2Proof/Machine/Flags.lean ====
section
/-! DEFINITION. The flags. There are no integer flags (R29); the only flags are the five
floating-point accrued exception flags (R30, R37, R39) and the rounding mode beside them (R38). -/

namespace Sys2Proof.Machine

/-- A set of floating-point exception flags, in the order of `fflags` (R37). -/
abbrev FFlags := BitVec 5

/-- No flag. -/
def noFlags : FFlags := 0#5
/-- `NV`, invalid operation (R37). -/
def flagNV : FFlags := 0b10000#5
/-- `DZ`, divide by zero (R37). -/
def flagDZ : FFlags := 0b01000#5
/-- `OF`, overflow (R37). -/
def flagOF : FFlags := 0b00100#5
/-- `UF`, underflow (R37). -/
def flagUF : FFlags := 0b00010#5
/-- `NX`, inexact (R37). -/
def flagNX : FFlags := 0b00001#5

/-- A flag where a condition holds. -/
def flagIf (b : Bool) (f : FFlags) : FFlags := if b then f else noFlags

/-- `fflags`, `fcsr[4:0]` (R39). -/
def State.fflags (s : State) : FFlags := s.fcsr.extractLsb' 0 5

/-- `frm`, `fcsr[7:5]` (R38). -/
def State.frm (s : State) : BitVec 3 := s.fcsr.extractLsb' 5 3

/-- `fcsr` from its two fields (R37). -/
def fcsrOf (frm : BitVec 3) (fflags : FFlags) : BitVec 8 := frm ++ fflags

/-- Flags accrue: a floating-point instruction only ever sets them (R39). -/
def State.accrue (s : State) (fl : FFlags) : State := { s with fcsr := fcsrOf s.frm (s.fflags ||| fl) }

/-- The five rounding modes (R38). -/
inductive Rounding where
  | rne
  | rtz
  | rdn
  | rup
  | rmm
deriving DecidableEq, Repr

/-- A rounding-mode code; 101, 110 and 111 are invalid in `frm` (R38). -/
def roundingOf (code : BitVec 3) : Option Rounding :=
  match code with
  | 0b000#3 => some .rne
  | 0b001#3 => some .rtz
  | 0b010#3 => some .rdn
  | 0b011#3 => some .rup
  | 0b100#3 => some .rmm
  | _ => none

/-- `resolve(rm)`: the instruction's rounding mode, or `frm` where `rm` is 111; none where it is
invalid (R38, R420). -/
def State.resolve (s : State) (rm : BitVec 3) : Option Rounding :=
  if rm = 0b111#3 then roundingOf s.frm else roundingOf rm

end Sys2Proof.Machine
end

