-- ==== Sys2Proof/Machine/Shared.lean ====
section
/-! DEFINITION. The shapes instructions share: loads, stores, branches and jumps, with the length of
the instruction as an argument, since a compressed instruction differs from its equivalent only in
that and in its operands (R250). -/

namespace Sys2Proof.Machine

/-- The `n` bytes `v` sign-extended to `XLEN` (R142). -/
def signedValue (x : Xlen) (n v : Nat) : Word := xsext x (BitVec.ofNat (8 * n) v)

/-- The bytes `v` zero-extended to `XLEN` (R142). -/
def unsignedValue (x : Xlen) (v : Nat) : Word := xzext x (BitVec.ofNat 64 v)

/-- A load of `n` bytes at `a`, sign-extended into `x[rd]` (R144 to R149). -/
def State.loadSigned (s : State) (ilen : Nat) (rd : RegIdx) (a : Word) (n : Nat) : Res :=
  s.load a n fun v => s.finishX ilen rd (signedValue s.cfg.xlen n v)

/-- A load of `n` bytes at `a`, zero-extended into `x[rd]` (R147, R148, R150). -/
def State.loadUnsigned (s : State) (ilen : Nat) (rd : RegIdx) (a : Word) (n : Nat) : Res :=
  s.load a n fun v => s.finishX ilen rd (unsignedValue s.cfg.xlen v)

/-- A store of the low `n` bytes of `x[rs2]` at `a` (R151 to R154). -/
def State.storeX (s : State) (ilen : Nat) (a : Word) (rs2 : RegIdx) (n : Nat) : Res :=
  s.store a n (s.readX rs2).toNat fun s' => .next (s'.retire ilen)

/-- A conditional branch (R143, R185): only a taken branch checks its target. -/
def State.branch {n : Nat} (s : State) (ilen : Nat) (taken : Bool) (imm : BitVec n) : Res :=
  if taken then s.jump (s.pcRel imm) id else .next (s.retire ilen)

/-- A jump to `t` that links: `x[rd] <- pc + ilen` (R143, R191, R192, R250). -/
def State.jumpLink (s : State) (ilen : Nat) (rd : RegIdx) (t : Word) : Res :=
  s.jump t fun s' => s'.writeX rd (xtrunc s.cfg.xlen (s.pc + BitVec.ofNat 64 ilen))

end Sys2Proof.Machine
end

