-- ==== Sys2Proof/Machine/Atomic.lean ====
section
/-! DEFINITION. The A extension (44_atomic.md, R340 to R363). The `aq` and `rl` bits have no effect
with one hart (R74, R340). -/

namespace Sys2Proof.Machine

/-- Whether the load or AMO of `n` bytes at `a` may read and write there (R341). -/
def State.allowsAmo (s : State) (a : Word) (n : Nat) : Bool :=
  s.allowsAll .read a n && s.allowsAll .write a n

/-- The AMO law (R341), for an operation on `w` bits. Its faults are store faults (R505). -/
def State.amo (s : State) (w : Nat) (rd rs1 rs2 : RegIdx) (op : BitVec w → BitVec w → BitVec w) : Res :=
  let a := s.readX rs1
  let n := w / 8
  if misaligned s.cfg.xlen a n then raise (.storeAddressMisaligned a)
  else if s.allowsAmo a n then
    let t := BitVec.ofNat w (s.readBytes a n)
    (s.writeBytes a (op t ((s.readX rs2).setWidth w)).toNat n).finishX 4 rd (xsext s.cfg.xlen t)
  else raise (.storeAccessFault a)

/-- The LR law (R342). -/
def State.lr (s : State) (w : Nat) (rd rs1 : RegIdx) : Res :=
  let a := s.readX rs1
  let n := w / 8
  if misaligned s.cfg.xlen a n then raise (.loadAddressMisaligned a)
  else if s.allowsAll .read a n then
    { s with reservation := some { addr := a, size := n } }.finishX 4 rd
      (xsext s.cfg.xlen (BitVec.ofNat w (s.readBytes a n)))
  else raise (.loadAccessFault a)

/-- Whether the reservation covers the bytes `a` to `a + n - 1`: it is of the same size (D15, log entry
10), and they lie inside the `RESGRAN`-aligned block of `max(RESGRAN, rn)` bytes that contains its
address (R343). -/
def State.reserved (s : State) (a : Word) (n : Nat) : Bool :=
  match s.reservation with
  | none => false
  | some r =>
    let block := max s.cfg.resGran r.size
    let base := r.addr.toNat - r.addr.toNat % block
    r.size == n && decide (base ≤ a.toNat) && decide (a.toNat + n ≤ base + block)

/-- Whether an SC to `a` succeeds: it is reserved, and the draw allows it (R343, D15). -/
def State.scSucceeds (s : State) (a : Word) (n : Nat) : Bool := s.reserved a n && Config.scDraw s.draws

/-- The SC law (R343): every SC that completes takes a draw and clears the reservation. -/
def State.sc (s : State) (w : Nat) (rd rs1 rs2 : RegIdx) : Res :=
  let a := s.readX rs1
  let n := w / 8
  if misaligned s.cfg.xlen a n then raise (.storeAddressMisaligned a)
  else if s.allowsAll .write a n then
    let done (t : State) : State := { t with reservation := none, draws := s.draws + 1 }
    if s.scSucceeds a n then (done (s.writeBytes a ((s.readX rs2).setWidth w).toNat n)).finishX 4 rd 0#64
    else (done s).finishX 4 rd 1#64
  else raise (.storeAccessFault a)

/-- The smaller of two signed values, the second where they are equal (R349). -/
def minSigned {w : Nat} (t s : BitVec w) : BitVec w := if t.toInt < s.toInt then t else s
/-- The larger of two signed values (R350). -/
def maxSigned {w : Nat} (t s : BitVec w) : BitVec w := if t.toInt > s.toInt then t else s
/-- The smaller of two unsigned values (R351). -/
def minUnsigned {w : Nat} (t s : BitVec w) : BitVec w := if t.toNat < s.toNat then t else s
/-- The larger of two unsigned values (R352). -/
def maxUnsigned {w : Nat} (t s : BitVec w) : BitVec w := if t.toNat > s.toNat then t else s

/-- LR.W (R342). -/
def execLrW (rd rs1 : RegIdx) (_aq _rl : BitVec 1) (s : State) : Res := s.lr 32 rd rs1
/-- SC.W (R343). -/
def execScW (rd rs1 rs2 : RegIdx) (_aq _rl : BitVec 1) (s : State) : Res := s.sc 32 rd rs1 rs2
/-- AMOSWAP.W (R344). -/
def execAmoswapW (rd rs1 rs2 : RegIdx) (_aq _rl : BitVec 1) (s : State) : Res :=
  s.amo 32 rd rs1 rs2 (fun _ v => v)
/-- AMOADD.W (R345). -/
def execAmoaddW (rd rs1 rs2 : RegIdx) (_aq _rl : BitVec 1) (s : State) : Res :=
  s.amo 32 rd rs1 rs2 (fun t v => t + v)
/-- AMOXOR.W (R346). -/
def execAmoxorW (rd rs1 rs2 : RegIdx) (_aq _rl : BitVec 1) (s : State) : Res :=
  s.amo 32 rd rs1 rs2 (fun t v => t ^^^ v)
/-- AMOAND.W (R347). -/
def execAmoandW (rd rs1 rs2 : RegIdx) (_aq _rl : BitVec 1) (s : State) : Res :=
  s.amo 32 rd rs1 rs2 (fun t v => t &&& v)
/-- AMOOR.W (R348). -/
def execAmoorW (rd rs1 rs2 : RegIdx) (_aq _rl : BitVec 1) (s : State) : Res :=
  s.amo 32 rd rs1 rs2 (fun t v => t ||| v)
/-- AMOMIN.W (R349). -/
def execAmominW (rd rs1 rs2 : RegIdx) (_aq _rl : BitVec 1) (s : State) : Res :=
  s.amo 32 rd rs1 rs2 minSigned
/-- AMOMAX.W (R350). -/
def execAmomaxW (rd rs1 rs2 : RegIdx) (_aq _rl : BitVec 1) (s : State) : Res :=
  s.amo 32 rd rs1 rs2 maxSigned
/-- AMOMINU.W (R351). -/
def execAmominuW (rd rs1 rs2 : RegIdx) (_aq _rl : BitVec 1) (s : State) : Res :=
  s.amo 32 rd rs1 rs2 minUnsigned
/-- AMOMAXU.W (R352). -/
def execAmomaxuW (rd rs1 rs2 : RegIdx) (_aq _rl : BitVec 1) (s : State) : Res :=
  s.amo 32 rd rs1 rs2 maxUnsigned
/-- LR.D (R353). -/
def execLrD (rd rs1 : RegIdx) (_aq _rl : BitVec 1) (s : State) : Res := s.lr 64 rd rs1
/-- SC.D (R354). -/
def execScD (rd rs1 rs2 : RegIdx) (_aq _rl : BitVec 1) (s : State) : Res := s.sc 64 rd rs1 rs2
/-- AMOSWAP.D (R355). -/
def execAmoswapD (rd rs1 rs2 : RegIdx) (_aq _rl : BitVec 1) (s : State) : Res :=
  s.amo 64 rd rs1 rs2 (fun _ v => v)
/-- AMOADD.D (R356). -/
def execAmoaddD (rd rs1 rs2 : RegIdx) (_aq _rl : BitVec 1) (s : State) : Res :=
  s.amo 64 rd rs1 rs2 (fun t v => t + v)
/-- AMOXOR.D (R357). -/
def execAmoxorD (rd rs1 rs2 : RegIdx) (_aq _rl : BitVec 1) (s : State) : Res :=
  s.amo 64 rd rs1 rs2 (fun t v => t ^^^ v)
/-- AMOAND.D (R358). -/
def execAmoandD (rd rs1 rs2 : RegIdx) (_aq _rl : BitVec 1) (s : State) : Res :=
  s.amo 64 rd rs1 rs2 (fun t v => t &&& v)
/-- AMOOR.D (R359). -/
def execAmoorD (rd rs1 rs2 : RegIdx) (_aq _rl : BitVec 1) (s : State) : Res :=
  s.amo 64 rd rs1 rs2 (fun t v => t ||| v)
/-- AMOMIN.D (R360). -/
def execAmominD (rd rs1 rs2 : RegIdx) (_aq _rl : BitVec 1) (s : State) : Res :=
  s.amo 64 rd rs1 rs2 minSigned
/-- AMOMAX.D (R361). -/
def execAmomaxD (rd rs1 rs2 : RegIdx) (_aq _rl : BitVec 1) (s : State) : Res :=
  s.amo 64 rd rs1 rs2 maxSigned
/-- AMOMINU.D (R362). -/
def execAmominuD (rd rs1 rs2 : RegIdx) (_aq _rl : BitVec 1) (s : State) : Res :=
  s.amo 64 rd rs1 rs2 minUnsigned
/-- AMOMAXU.D (R363). -/
def execAmomaxuD (rd rs1 rs2 : RegIdx) (_aq _rl : BitVec 1) (s : State) : Res :=
  s.amo 64 rd rs1 rs2 maxUnsigned

end Sys2Proof.Machine
end

