-- ==== Sys2Proof/Machine/Base.lean ====
section
/-! DEFINITION. The base integer instructions (40_base_integer.md, R144 to R196). The counter reads
R197 to R202 are CSR instructions and stand in Machine/Priv.lean. -/

namespace Sys2Proof.Machine

/-! ### Loads -/

/-- LB (R144). -/
def execLb (rd rs1 : RegIdx) (imm : BitVec 12) (s : State) : Res := s.loadSigned 4 rd (s.ea rs1 imm) 1
/-- LH (R145). -/
def execLh (rd rs1 : RegIdx) (imm : BitVec 12) (s : State) : Res := s.loadSigned 4 rd (s.ea rs1 imm) 2
/-- LW (R146). -/
def execLw (rd rs1 : RegIdx) (imm : BitVec 12) (s : State) : Res := s.loadSigned 4 rd (s.ea rs1 imm) 4
/-- LBU (R147). -/
def execLbu (rd rs1 : RegIdx) (imm : BitVec 12) (s : State) : Res := s.loadUnsigned 4 rd (s.ea rs1 imm) 1
/-- LHU (R148). -/
def execLhu (rd rs1 : RegIdx) (imm : BitVec 12) (s : State) : Res := s.loadUnsigned 4 rd (s.ea rs1 imm) 2
/-- LD (R149). -/
def execLd (rd rs1 : RegIdx) (imm : BitVec 12) (s : State) : Res := s.loadSigned 4 rd (s.ea rs1 imm) 8
/-- LWU (R150). -/
def execLwu (rd rs1 : RegIdx) (imm : BitVec 12) (s : State) : Res := s.loadUnsigned 4 rd (s.ea rs1 imm) 4

/-! ### Stores -/

/-- SB (R151). -/
def execSb (rs1 rs2 : RegIdx) (imm : BitVec 12) (s : State) : Res := s.storeX 4 (s.ea rs1 imm) rs2 1
/-- SH (R152). -/
def execSh (rs1 rs2 : RegIdx) (imm : BitVec 12) (s : State) : Res := s.storeX 4 (s.ea rs1 imm) rs2 2
/-- SW (R153). -/
def execSw (rs1 rs2 : RegIdx) (imm : BitVec 12) (s : State) : Res := s.storeX 4 (s.ea rs1 imm) rs2 4
/-- SD (R154). -/
def execSd (rs1 rs2 : RegIdx) (imm : BitVec 12) (s : State) : Res := s.storeX 4 (s.ea rs1 imm) rs2 8

/-! ### Shifts -/

/-- SLL (R155). -/
def execSll (rd rs1 rs2 : RegIdx) (s : State) : Res :=
  s.finishX 4 rd (xshl s.cfg.xlen (s.readX rs1) (s.shiftAmount rs2))
/-- SLLI (R156). -/
def execSlli (rd rs1 : RegIdx) (shamt : BitVec 6) (s : State) : Res :=
  s.finishX 4 rd (xshl s.cfg.xlen (s.readX rs1) shamt.toNat)
/-- SRL (R157). -/
def execSrl (rd rs1 rs2 : RegIdx) (s : State) : Res :=
  s.finishX 4 rd (xshr s.cfg.xlen (s.readX rs1) (s.shiftAmount rs2))
/-- SRLI (R158). -/
def execSrli (rd rs1 : RegIdx) (shamt : BitVec 6) (s : State) : Res :=
  s.finishX 4 rd (xshr s.cfg.xlen (s.readX rs1) shamt.toNat)
/-- SRA (R159). -/
def execSra (rd rs1 rs2 : RegIdx) (s : State) : Res :=
  s.finishX 4 rd (xsar s.cfg.xlen (s.readX rs1) (s.shiftAmount rs2))
/-- SRAI (R160). -/
def execSrai (rd rs1 : RegIdx) (shamt : BitVec 6) (s : State) : Res :=
  s.finishX 4 rd (xsar s.cfg.xlen (s.readX rs1) shamt.toNat)
/-- SLLW (R161). -/
def execSllw (rd rs1 rs2 : RegIdx) (s : State) : Res :=
  s.finishX 4 rd (wordResult (s.readW rs1 <<< s.shiftAmountW rs2))
/-- SLLIW (R162). -/
def execSlliw (rd rs1 : RegIdx) (shamt : BitVec 5) (s : State) : Res :=
  s.finishX 4 rd (wordResult (s.readW rs1 <<< shamt.toNat))
/-- SRLW (R163). -/
def execSrlw (rd rs1 rs2 : RegIdx) (s : State) : Res :=
  s.finishX 4 rd (wordResult (s.readW rs1 >>> s.shiftAmountW rs2))
/-- SRLIW (R164). -/
def execSrliw (rd rs1 : RegIdx) (shamt : BitVec 5) (s : State) : Res :=
  s.finishX 4 rd (wordResult (s.readW rs1 >>> shamt.toNat))
/-- SRAW (R165). -/
def execSraw (rd rs1 rs2 : RegIdx) (s : State) : Res :=
  s.finishX 4 rd (wordResult ((s.readW rs1).sshiftRight (s.shiftAmountW rs2)))
/-- SRAIW (R166). -/
def execSraiw (rd rs1 : RegIdx) (shamt : BitVec 5) (s : State) : Res :=
  s.finishX 4 rd (wordResult ((s.readW rs1).sshiftRight shamt.toNat))

/-! ### Arithmetic -/

/-- ADD (R167). -/
def execAdd (rd rs1 rs2 : RegIdx) (s : State) : Res := s.finishX 4 rd (s.readX rs1 + s.readX rs2)
/-- ADDI (R168). -/
def execAddi (rd rs1 : RegIdx) (imm : BitVec 12) (s : State) : Res :=
  s.finishX 4 rd (s.readX rs1 + xsext s.cfg.xlen imm)
/-- SUB (R169). -/
def execSub (rd rs1 rs2 : RegIdx) (s : State) : Res := s.finishX 4 rd (s.readX rs1 - s.readX rs2)
/-- ADDW (R170). -/
def execAddw (rd rs1 rs2 : RegIdx) (s : State) : Res := s.finishX 4 rd (wordResult (s.readW rs1 + s.readW rs2))
/-- ADDIW (R171). -/
def execAddiw (rd rs1 : RegIdx) (imm : BitVec 12) (s : State) : Res :=
  s.finishX 4 rd (wordResult (s.readW rs1 + imm.signExtend 32))
/-- SUBW (R172). -/
def execSubw (rd rs1 rs2 : RegIdx) (s : State) : Res := s.finishX 4 rd (wordResult (s.readW rs1 - s.readW rs2))
/-- LUI (R173). -/
def execLui (rd : RegIdx) (imm : BitVec 20) (s : State) : Res := s.finishX 4 rd (immU s.cfg.xlen imm)
/-- AUIPC (R174). -/
def execAuipc (rd : RegIdx) (imm : BitVec 20) (s : State) : Res := s.finishX 4 rd (s.pc + immU s.cfg.xlen imm)

/-! ### Logical -/

/-- XOR (R175). -/
def execXor (rd rs1 rs2 : RegIdx) (s : State) : Res := s.finishX 4 rd (s.readX rs1 ^^^ s.readX rs2)
/-- XORI (R176). -/
def execXori (rd rs1 : RegIdx) (imm : BitVec 12) (s : State) : Res :=
  s.finishX 4 rd (s.readX rs1 ^^^ xsext s.cfg.xlen imm)
/-- OR (R177). -/
def execOr (rd rs1 rs2 : RegIdx) (s : State) : Res := s.finishX 4 rd (s.readX rs1 ||| s.readX rs2)
/-- ORI (R178). -/
def execOri (rd rs1 : RegIdx) (imm : BitVec 12) (s : State) : Res :=
  s.finishX 4 rd (s.readX rs1 ||| xsext s.cfg.xlen imm)
/-- AND (R179). -/
def execAnd (rd rs1 rs2 : RegIdx) (s : State) : Res := s.finishX 4 rd (s.readX rs1 &&& s.readX rs2)
/-- ANDI (R180). -/
def execAndi (rd rs1 : RegIdx) (imm : BitVec 12) (s : State) : Res :=
  s.finishX 4 rd (s.readX rs1 &&& xsext s.cfg.xlen imm)

/-! ### Compare -/

/-- SLT (R181). -/
def execSlt (rd rs1 rs2 : RegIdx) (s : State) : Res :=
  s.finishX 4 rd (boolWord (xlts s.cfg.xlen (s.readX rs1) (s.readX rs2)))
/-- SLTI (R182). -/
def execSlti (rd rs1 : RegIdx) (imm : BitVec 12) (s : State) : Res :=
  s.finishX 4 rd (boolWord (xlts s.cfg.xlen (s.readX rs1) (xsext s.cfg.xlen imm)))
/-- SLTU (R183). -/
def execSltu (rd rs1 rs2 : RegIdx) (s : State) : Res :=
  s.finishX 4 rd (boolWord (xltu s.cfg.xlen (s.readX rs1) (s.readX rs2)))
/-- SLTIU: the immediate is sign-extended, then compared as unsigned (R184). -/
def execSltiu (rd rs1 : RegIdx) (imm : BitVec 12) (s : State) : Res :=
  s.finishX 4 rd (boolWord (xltu s.cfg.xlen (s.readX rs1) (xsext s.cfg.xlen imm)))

/-! ### Branches -/

/-- BEQ (R185). -/
def execBeq (rs1 rs2 : RegIdx) (imm : BitVec 13) (s : State) : Res :=
  s.branch 4 (s.readX rs1 == s.readX rs2) imm
/-- BNE (R186). -/
def execBne (rs1 rs2 : RegIdx) (imm : BitVec 13) (s : State) : Res :=
  s.branch 4 (s.readX rs1 != s.readX rs2) imm
/-- BLT (R187). -/
def execBlt (rs1 rs2 : RegIdx) (imm : BitVec 13) (s : State) : Res :=
  s.branch 4 (xlts s.cfg.xlen (s.readX rs1) (s.readX rs2)) imm
/-- BGE (R188). -/
def execBge (rs1 rs2 : RegIdx) (imm : BitVec 13) (s : State) : Res :=
  s.branch 4 (!xlts s.cfg.xlen (s.readX rs1) (s.readX rs2)) imm
/-- BLTU (R189). -/
def execBltu (rs1 rs2 : RegIdx) (imm : BitVec 13) (s : State) : Res :=
  s.branch 4 (xltu s.cfg.xlen (s.readX rs1) (s.readX rs2)) imm
/-- BGEU (R190). -/
def execBgeu (rs1 rs2 : RegIdx) (imm : BitVec 13) (s : State) : Res :=
  s.branch 4 (!xltu s.cfg.xlen (s.readX rs1) (s.readX rs2)) imm

/-! ### Jump and link -/

/-- JAL (R191). -/
def execJal (rd : RegIdx) (imm : BitVec 21) (s : State) : Res := s.jumpLink 4 rd (s.pcRel imm)
/-- JALR (R192). -/
def execJalr (rd rs1 : RegIdx) (imm : BitVec 12) (s : State) : Res := s.jumpLink 4 rd (s.jalrTarget rs1 imm)

/-! ### Synch and system -/

/-- FENCE: every value of its fields executes alike, with no effect (R73, R193). -/
def execFence (_pred _succ _ign1 : BitVec 4) (_ign2 _ign3 : BitVec 5) (s : State) : Res := .next (s.retire 4)
/-- FENCE.I: `stale <- {}` (R75, R194). -/
def execFenceI (_ign1 : BitVec 12) (_ign2 _ign3 : BitVec 5) (s : State) : Res :=
  .next ({ s with stale := [] }.retire 4)
/-- SCALL (R195, R503). -/
def execScall (_s : State) : Res := raise .environmentCall
/-- SBREAK (R196, R503). -/
def execSbreak (s : State) : Res := raise (.breakpoint s.pc)

end Sys2Proof.Machine
end

