-- ==== Sys2Proof/Machine/Float.lean ====
section
/-! DEFINITION. IEEE 754 arithmetic as the spec uses it (R371, R372, R421, R422, R474, R485): a value
is unpacked, the exact result is computed over integers, and it is rounded once. A floating-point
value of width `w` stands in the low `w` bits of an `FWord`, zeros above. -/

namespace Sys2Proof.Machine

/-! ### Formats -/

/-- The three formats (R371). -/
inductive Fmt where
  | s
  | d
  | q
deriving DecidableEq, Repr

/-- The width `w` (R371). -/
def Fmt.width : Fmt → Nat
  | .s => 32
  | .d => 64
  | .q => 128

/-- The bits of the fraction (R371). -/
def Fmt.fracBits : Fmt → Nat
  | .s => 23
  | .d => 52
  | .q => 112

/-- The bits of the exponent (R371). -/
def Fmt.expBits : Fmt → Nat
  | .s => 8
  | .d => 11
  | .q => 15

/-- The exponent bias (R371). -/
def Fmt.bias (m : Fmt) : Nat := 2 ^ (m.expBits - 1) - 1

/-- The exponent field of infinities and NaNs: all ones (R371). -/
def Fmt.maxExp (m : Fmt) : Nat := 2 ^ m.expBits - 1

/-- The exponent of the lowest bit of a subnormal number: every finite value is a multiple of 2 to
this power. -/
def Fmt.minLsb (m : Fmt) : Int := 1 - (m.bias : Int) - m.fracBits

/-- A value from its sign and its exponent and fraction fields taken as one number. -/
def Fmt.pack (m : Fmt) (neg : Bool) (magnitude : Nat) : FWord :=
  BitVec.ofNat 128 (magnitude + if neg then 2 ^ (m.width - 1) else 0)

/-- The sign bit. -/
def Fmt.sign (m : Fmt) (v : FWord) : Bool := v.getLsbD (m.width - 1)

/-- The exponent and fraction fields taken as one number. -/
def Fmt.magnitude (m : Fmt) (v : FWord) : Nat := v.toNat % 2 ^ (m.width - 1)

/-- The canonical quiet NaN: sign 0, top fraction bit 1, rest 0 (R371). -/
def Fmt.canonicalNaN (m : Fmt) : FWord := m.pack false (m.maxExp * 2 ^ m.fracBits + 2 ^ (m.fracBits - 1))

/-- A signed infinity. -/
def Fmt.infinity (m : Fmt) (neg : Bool) : FWord := m.pack neg (m.maxExp * 2 ^ m.fracBits)

/-- A signed zero. -/
def Fmt.zero (m : Fmt) (neg : Bool) : FWord := m.pack neg 0

/-- The largest finite number, signed. -/
def Fmt.largest (m : Fmt) (neg : Bool) : FWord := m.pack neg (m.maxExp * 2 ^ m.fracBits - 1)

/-! ### Values -/

/-- What a bit pattern stands for. `finite neg mant exp` is `mant * 2^exp`, negated if `neg`. -/
inductive FVal where
  | nan (signaling : Bool)
  | inf (neg : Bool)
  | finite (neg : Bool) (mant : Nat) (exp : Int)
deriving DecidableEq, Repr

/-- The value of a bit pattern (R371). -/
def Fmt.unpack (m : Fmt) (v : FWord) : FVal :=
  let neg := m.sign v
  let frac := m.magnitude v % 2 ^ m.fracBits
  let e := m.magnitude v / 2 ^ m.fracBits
  if e = m.maxExp then
    if frac = 0 then .inf neg else .nan (decide (frac < 2 ^ (m.fracBits - 1)))
  else if e = 0 then .finite neg frac m.minLsb
  else .finite neg (frac + 2 ^ m.fracBits) (m.minLsb + (e - 1 : Nat))

/-- Whether a value is a signaling NaN. -/
def FVal.isSignaling : FVal → Bool
  | .nan sig => sig
  | _ => false

/-- Whether a value is a NaN. -/
def FVal.isNaN : FVal → Bool
  | .nan _ => true
  | _ => false

/-- The value negated; a NaN stays as it is (R422). -/
def FVal.negate : FVal → FVal
  | .nan sig => .nan sig
  | .inf neg => .inf !neg
  | .finite neg mant exp => .finite (!neg) mant exp

/-! ### Rounding -/

/-- `mant / 2^k` rounded to an integer in a mode, and whether it is inexact (R38). -/
def roundShift (mode : Rounding) (neg : Bool) (mant k : Nat) : Nat × Bool :=
  let q := mant / 2 ^ k
  let r := mant % 2 ^ k
  let up : Bool :=
    match mode with
    | .rne => decide (2 * r > 2 ^ k) || (decide (2 * r = 2 ^ k) && q % 2 == 1)
    | .rtz => false
    | .rdn => neg && r != 0
    | .rup => !neg && r != 0
    | .rmm => decide (2 * r ≥ 2 ^ k)
  (if up then q + 1 else q, r != 0)

/-- `mant * 2^exp` rounded to a multiple of `2^lsb`, as that multiple, and whether it is inexact. -/
def roundAt (mode : Rounding) (neg : Bool) (mant : Nat) (exp lsb : Int) : Nat × Bool :=
  if lsb ≤ exp then (mant * 2 ^ (exp - lsb).toNat, false)
  else roundShift mode neg mant (lsb - exp).toNat

/-- The result of an overflow: infinity or the largest finite number, as the mode directs (R421). -/
def Fmt.overflow (m : Fmt) (mode : Rounding) (neg : Bool) : FWord :=
  match mode with
  | .rne | .rmm => m.infinity neg
  | .rtz => m.largest neg
  | .rdn => if neg then m.infinity neg else m.largest neg
  | .rup => if neg then m.largest neg else m.infinity neg

/-- `mant * 2^exp`, not zero, rounded once to a format, with its flags (R421): tininess is detected
after rounding (R371). -/
def Fmt.round (m : Fmt) (mode : Rounding) (neg : Bool) (mant : Nat) (exp : Int) : FWord × FFlags :=
  let top : Int := exp + Nat.log2 mant
  let wide : Int := top - m.fracBits
  let lsb : Int := max wide m.minLsb
  let (n, inexact) := roundAt mode neg mant exp lsb
  let magnitude := (lsb - m.minLsb).toNat * 2 ^ m.fracBits + n
  if m.maxExp * 2 ^ m.fracBits ≤ magnitude then (m.overflow mode neg, flagOF ||| flagNX)
  else
    let unbounded := (roundAt mode neg mant exp wide).1
    let tiny := decide (top < 1 - (m.bias : Int)) &&
      !(decide (top + 1 = 1 - (m.bias : Int)) && decide (unbounded = 2 ^ (m.fracBits + 1)))
    (m.pack neg magnitude, flagIf inexact flagNX ||| flagIf (tiny && inexact) flagUF)

/-- A finite value in a format, zero included. -/
def Fmt.roundFinite (m : Fmt) (mode : Rounding) (neg : Bool) (mant : Nat) (exp : Int) : FWord × FFlags :=
  if mant = 0 then (m.zero neg, noFlags) else m.round mode neg mant exp

/-- The canonical NaN, with NV where an operation is invalid. -/
def Fmt.nanResult (m : Fmt) (invalid : Bool) : FWord × FFlags := (m.canonicalNaN, flagIf invalid flagNV)

/-! ### Addition and fused multiply-add -/

/-- `mant * 2^exp` as a multiple of `2^lsb`, signed, for `lsb ≤ exp`. -/
def scaled (neg : Bool) (mant : Nat) (exp lsb : Int) : Int :=
  let v : Int := (mant * 2 ^ (exp - lsb).toNat : Nat)
  if neg then -v else v

/-- The sum of two values that are not NaNs, rounded once. An exact zero sum of opposite signs is
+0, or -0 under RDN (R421). -/
def Fmt.addNumbers (m : Fmt) (mode : Rounding) (a b : FVal) : FWord × FFlags :=
  match a, b with
  | .inf na, .inf nb => if na = nb then (m.infinity na, noFlags) else m.nanResult true
  | .inf na, _ => (m.infinity na, noFlags)
  | _, .inf nb => (m.infinity nb, noFlags)
  | .finite na ma ea, .finite nb mb eb =>
    let lsb := min ea eb
    let sum := scaled na ma ea lsb + scaled nb mb eb lsb
    if sum = 0 then (m.zero (if na = nb then na else mode == .rdn), noFlags)
    else m.round mode (decide (sum < 0)) sum.natAbs lsb
  | _, _ => m.nanResult false

/-- `a + b` (R421). -/
def Fmt.addValues (m : Fmt) (mode : Rounding) (a b : FVal) : FWord × FFlags :=
  if a.isNaN || b.isNaN then m.nanResult (a.isSignaling || b.isSignaling) else m.addNumbers mode a b

/-- FADD (R421, R423). -/
def Fmt.add (m : Fmt) (mode : Rounding) (a b : FWord) : FWord × FFlags :=
  m.addValues mode (m.unpack a) (m.unpack b)

/-- FSUB (R421, R426). -/
def Fmt.sub (m : Fmt) (mode : Rounding) (a b : FWord) : FWord × FFlags :=
  m.addValues mode (m.unpack a) (m.unpack b).negate

/-- The exact product of two values; none where one is zero and the other infinite. A NaN operand
gives a NaN. -/
def exactProduct (a b : FVal) : Option FVal :=
  match a, b with
  | .nan sig, .nan sig' => some (.nan (sig || sig'))
  | .nan sig, _ => some (.nan sig)
  | _, .nan sig => some (.nan sig)
  | .inf na, .inf nb => some (.inf (na != nb))
  | .inf na, .finite nb mb _ => if mb = 0 then none else some (.inf (na != nb))
  | .finite na ma _, .inf nb => if ma = 0 then none else some (.inf (na != nb))
  | .finite na ma ea, .finite nb mb eb => some (.finite (na != nb) (ma * mb) (ea + eb))

/-- FMUL (R421, R429). -/
def Fmt.mul (m : Fmt) (mode : Rounding) (a b : FWord) : FWord × FFlags :=
  match exactProduct (m.unpack a) (m.unpack b) with
  | none => m.nanResult true
  | some (.nan sig) => m.nanResult sig
  | some (.inf neg) => (m.infinity neg, noFlags)
  | some (.finite neg mant exp) => m.roundFinite mode neg mant exp

/-- `(s1*a)*b + (s2*c)` rounded once (R422); `negProduct` and `negAddend` are the signs `s1` and
`s2`. Zero times infinity is invalid even beside a quiet NaN. -/
def Fmt.fma (m : Fmt) (mode : Rounding) (negProduct negAddend : Bool) (a b c : FWord) : FWord × FFlags :=
  let va := m.unpack a
  let vc := m.unpack c
  let sa := if negProduct then va.negate else va
  let sc := if negAddend then vc.negate else vc
  match exactProduct sa (m.unpack b) with
  | none => m.nanResult true
  | some p => m.addValues mode p sc

/-! ### Division and square root -/

/-- An integer result with a sticky bit below it that is set where something was dropped. -/
def jam (n : Nat) (dropped : Bool) : Nat := 2 * n + if dropped then 1 else 0

/-- FDIV (R421, R432). -/
def Fmt.div (m : Fmt) (mode : Rounding) (a b : FWord) : FWord × FFlags :=
  match m.unpack a, m.unpack b with
  | .nan sig, v => m.nanResult (sig || v.isSignaling)
  | _, .nan sig => m.nanResult sig
  | .inf _, .inf _ => m.nanResult true
  | .inf na, .finite nb _ _ => (m.infinity (na != nb), noFlags)
  | .finite na _ _, .inf nb => (m.zero (na != nb), noFlags)
  | .finite na ma ea, .finite nb mb eb =>
    let neg := na != nb
    if mb = 0 then
      if ma = 0 then m.nanResult true else (m.infinity neg, flagDZ)
    else
      let k := 2 * m.fracBits + 8
      let n := ma * 2 ^ k
      if ma = 0 then (m.zero neg, noFlags)
      else m.round mode neg (jam (n / mb) (n % mb != 0)) (ea - eb - k - 1)

/-- The integer square root below `2^fuel`, from the partial root `r`, bit by bit. -/
def sqrtFrom (n : Nat) : Nat → Nat → Nat
  | 0, r => r
  | k + 1, r => if (r + 2 ^ k) * (r + 2 ^ k) ≤ n then sqrtFrom n k (r + 2 ^ k) else sqrtFrom n k r

/-- FSQRT (R421, R435). -/
def Fmt.sqrt (m : Fmt) (mode : Rounding) (a : FWord) : FWord × FFlags :=
  match m.unpack a with
  | .nan sig => m.nanResult sig
  | .inf neg => if neg then m.nanResult true else (m.infinity false, noFlags)
  | .finite neg mant exp =>
    if mant = 0 then (m.zero neg, noFlags)
    else if neg then m.nanResult true
    else
      let k := 2 * m.fracBits + 8 + (exp % 2).toNat
      let n := mant * 2 ^ k
      let r := sqrtFrom n (2 * m.fracBits + 8) 0
      m.round mode false (jam r (r * r != n)) ((exp - k) / 2 - 1)

/-! ### Conversions -/

/-- The smallest and the largest value of an integer type of `len` bits. -/
def intRange (signed : Bool) (len : Nat) : Int × Int :=
  if signed then (-(2 : Int) ^ (len - 1), (2 : Int) ^ (len - 1) - 1) else (0, (2 : Int) ^ len - 1)

/-- `toint(v, m, signed?, L)` (R372): the rounded integer, or the saturated one with NV. -/
def Fmt.toInt (m : Fmt) (mode : Rounding) (signed : Bool) (len : Nat) (a : FWord) : Int × FFlags :=
  let (lo, hi) := intRange signed len
  match m.unpack a with
  | .nan _ => (hi, flagNV)
  | .inf neg => (if neg then lo else hi, flagNV)
  | .finite neg mant exp =>
    let (n, inexact) := roundAt mode neg mant exp 0
    let r : Int := if neg then -(n : Int) else n
    if r < lo then (lo, flagNV) else if hi < r then (hi, flagNV) else (r, flagIf inexact flagNX)

/-- `fromint(i, m, w)` (R372). -/
def Fmt.fromInt (m : Fmt) (mode : Rounding) (i : Int) : FWord × FFlags :=
  m.roundFinite mode (decide (i < 0)) i.natAbs 0

/-- `cvt(v, m, w)` between formats (R372). -/
def Fmt.convert (src dst : Fmt) (mode : Rounding) (a : FWord) : FWord × FFlags :=
  match src.unpack a with
  | .nan sig => dst.nanResult sig
  | .inf neg => (dst.infinity neg, noFlags)
  | .finite neg mant exp => dst.roundFinite mode neg mant exp

/-! ### Sign injection, comparison, minimum and maximum, classification -/

/-- Everything but the sign from `a`, and the given sign (R450). -/
def Fmt.withSign (m : Fmt) (a : FWord) (neg : Bool) : FWord := m.pack neg (m.magnitude a)

/-- The order of values that are not NaNs: the magnitude, negated for a negative value; the two
zeros are equal. -/
def Fmt.orderKey (m : Fmt) (a : FWord) : Int := if m.sign a then -(m.magnitude a : Int) else m.magnitude a

/-- FEQ: quiet, NV only for a signaling NaN (R465). -/
def Fmt.eq (m : Fmt) (a b : FWord) : Bool × FFlags :=
  let va := m.unpack a
  let vb := m.unpack b
  (!(va.isNaN || vb.isNaN) && m.orderKey a == m.orderKey b, flagIf (va.isSignaling || vb.isSignaling) flagNV)

/-- FLT: signaling, NV for any NaN (R468). -/
def Fmt.lt (m : Fmt) (a b : FWord) : Bool × FFlags :=
  let nan := (m.unpack a).isNaN || (m.unpack b).isNaN
  (!nan && decide (m.orderKey a < m.orderKey b), flagIf nan flagNV)

/-- FLE: signaling, NV for any NaN (R471). -/
def Fmt.le (m : Fmt) (a b : FWord) : Bool × FFlags :=
  let nan := (m.unpack a).isNaN || (m.unpack b).isNaN
  (!nan && decide (m.orderKey a ≤ m.orderKey b), flagIf nan flagNV)

/-- The choice between two operands of equal order: -0 and +0 are a draw under `v20`, and -0 is the
smaller under `v22`; otherwise they are the same bits (R485). -/
def Fmt.pickEqual (m : Fmt) (rule : FMinMaxRule) (draw isMax : Bool) (a b : FWord) : FWord :=
  if m.sign a = m.sign b then a
  else
    match rule with
    | .v20 => if draw then a else b
    | .v22 => if m.sign a = isMax then b else a

/-- FMIN (`isMax = false`) and FMAX of two operands (R485). -/
def Fmt.minMax (m : Fmt) (rule : FMinMaxRule) (draw isMax : Bool) (a b : FWord) : FWord × FFlags :=
  let va := m.unpack a
  let vb := m.unpack b
  let flags := flagIf (va.isSignaling || vb.isSignaling) flagNV
  let r :=
    if va.isNaN && vb.isNaN then m.canonicalNaN
    else if rule == .v20 && (va.isSignaling || vb.isSignaling) then m.canonicalNaN
    else if va.isNaN then b
    else if vb.isNaN then a
    else if m.orderKey a = m.orderKey b then m.pickEqual rule draw isMax a b
    else if decide (m.orderKey a < m.orderKey b) = isMax then b else a
  (r, flags)

/-- FCLASS: the number of the one bit that is set (R474). -/
def Fmt.classBit (m : Fmt) (a : FWord) : Nat :=
  match m.unpack a with
  | .nan sig => if sig then 8 else 9
  | .inf neg => if neg then 0 else 7
  | .finite neg mant _ =>
    if mant = 0 then if neg then 3 else 4
    else if mant < 2 ^ m.fracBits then if neg then 2 else 5
    else if neg then 1 else 6

end Sys2Proof.Machine
end

