-- ==== Sys2Proof/Machine/Fpu.lean ====
section
/-! DEFINITION. The shapes floating-point instructions share: boxing (R41), rounding-mode resolution
(R420), and the arithmetic, conversion and comparison laws (R372, R421, R422). -/

namespace Sys2Proof.Machine

/-- The low `w` bits of a floating-point register, whatever the bits above hold. -/
def State.rawF (s : State) (m : Fmt) (r : RegIdx) : FWord := ftrunc m.width (s.readF r)

/-- The bits of an f register above the low `w`. -/
def upperBits (s : State) (m : Fmt) (r : RegIdx) : Nat := (s.readF r).toNat / 2 ^ m.width

/-- `unbox_w(f[r])` (R41). -/
def State.unbox (s : State) (m : Fmt) (r : RegIdx) : FWord :=
  match s.cfg.nanBox with
  | .boxed =>
    if upperBits s m r = 2 ^ (s.cfg.flen - m.width) - 1 then s.rawF m r else m.canonicalNaN
  | .unspecifiedUpper => s.rawF m r

/-- `box_w(v)` (R41): all ones above the value, or drawn bits. -/
def State.box (s : State) (m : Fmt) (v : FWord) : FWord :=
  match s.cfg.nanBox with
  | .boxed => ftrunc m.width v ||| (BitVec.allOnes 128 <<< m.width)
  | .unspecifiedUpper => ftrunc m.width v ||| (Config.upperDraw s.draws <<< m.width)

/-- `f[rd] <- box_w(v)`. A draw is counted with every such write, and FMIN and FMAX take theirs with
it. -/
def State.writeBoxed (s : State) (m : Fmt) (rd : RegIdx) (v : FWord) : State :=
  { s.writeF rd (s.box m v) with draws := s.draws + 1 }

/-- `f[rd] <- box_w(v); fflags <- fflags | flags`, then the instruction completes. -/
def State.finishF (s : State) (ilen : Nat) (m : Fmt) (rd : RegIdx) (r : FWord × FFlags) : Res :=
  .next (((s.writeBoxed m rd r.1).accrue r.2).retire ilen)

/-- `x[rd] <- v; fflags <- fflags | flags`, then the instruction completes. -/
def State.finishXF (s : State) (rd : RegIdx) (v : Word) (fl : FFlags) : Res :=
  .next (((s.writeX rd v).accrue fl).retire 4)

/-- `m = resolve(rm)`, or `IllegalInstruction` (R420); `i` is the instruction, for the reported word. -/
def State.withRounding (s : State) (i : Instr) (rm : BitVec 3) (k : Rounding → Res) : Res :=
  match s.resolve rm with
  | none => raiseIllegal i
  | some mode => k mode

/-- The law of two-operand arithmetic (R421). -/
def State.arith2 (s : State) (i : Instr) (m : Fmt) (op : Fmt → Rounding → FWord → FWord → FWord × FFlags)
    (rd rs1 rs2 : RegIdx) (rm : BitVec 3) : Res :=
  s.withRounding i rm fun mode => s.finishF 4 m rd (op m mode (s.unbox m rs1) (s.unbox m rs2))

/-- The law of one-operand arithmetic (R421). -/
def State.arith1 (s : State) (i : Instr) (m : Fmt) (op : Fmt → Rounding → FWord → FWord × FFlags)
    (rd rs1 : RegIdx) (rm : BitVec 3) : Res :=
  s.withRounding i rm fun mode => s.finishF 4 m rd (op m mode (s.unbox m rs1))

/-- The fused multiply-add law (R422). -/
def State.arith3 (s : State) (i : Instr) (m : Fmt) (negProduct negAddend : Bool)
    (rd rs1 rs2 rs3 : RegIdx) (rm : BitVec 3) : Res :=
  s.withRounding i rm fun mode =>
    s.finishF 4 m rd (m.fma mode negProduct negAddend (s.unbox m rs1) (s.unbox m rs2) (s.unbox m rs3))

/-- Conversion from an integer (R372). -/
def State.convertFromInt (s : State) (i : Instr) (m : Fmt) (v : Int) (rd : RegIdx) (rm : BitVec 3) : Res :=
  s.withRounding i rm fun mode => s.finishF 4 m rd (m.fromInt mode v)

/-- Conversion to an integer of `len` bits, sign-extended to `XLEN` (R372, R398). -/
def State.convertToInt (s : State) (i : Instr) (m : Fmt) (signed : Bool) (len : Nat) (rd rs1 : RegIdx)
    (rm : BitVec 3) : Res :=
  s.withRounding i rm fun mode =>
    let (v, fl) := m.toInt mode signed len (s.unbox m rs1)
    s.finishXF rd (xsext s.cfg.xlen (BitVec.ofInt len v)) fl

/-- Conversion between formats (R372). -/
def State.convertFormat (s : State) (i : Instr) (src dst : Fmt) (rd rs1 : RegIdx) (rm : BitVec 3) : Res :=
  s.withRounding i rm fun mode => s.finishF 4 dst rd (src.convert dst mode (s.unbox src rs1))

/-- Sign injection: the sign is given from the two operands' signs (R450 to R458). -/
def State.signInject (s : State) (m : Fmt) (sign : Bool → Bool → Bool) (rd rs1 rs2 : RegIdx) : Res :=
  let a := s.unbox m rs1
  let b := s.unbox m rs2
  s.finishF 4 m rd (m.withSign a (sign (m.sign a) (m.sign b)), noFlags)

/-- FMIN and FMAX (R485). -/
def State.minMax (s : State) (m : Fmt) (isMax : Bool) (rd rs1 rs2 : RegIdx) : Res :=
  s.finishF 4 m rd (m.minMax s.cfg.fMinMax (Config.zeroDraw s.draws) isMax (s.unbox m rs1) (s.unbox m rs2))

/-- A comparison, its result 1 or 0 (R465 to R473). -/
def State.compareF (s : State) (m : Fmt) (op : Fmt → FWord → FWord → Bool × FFlags) (rd rs1 rs2 : RegIdx) : Res :=
  let r := op m (s.unbox m rs1) (s.unbox m rs2)
  s.finishXF rd (boolWord r.1) r.2

/-- FCLASS (R474 to R476). -/
def State.classify (s : State) (m : Fmt) (rd rs1 : RegIdx) : Res :=
  s.finishXF rd (BitVec.ofNat 64 (2 ^ m.classBit (s.unbox m rs1))) noFlags

/-- A floating-point load: the bits of `w/8` bytes, boxed (R380 to R385). -/
def State.loadF (s : State) (ilen : Nat) (m : Fmt) (rd : RegIdx) (a : Word) : Res :=
  s.load a (m.width / 8) fun v => s.finishF ilen m rd (BitVec.ofNat 128 v, noFlags)

/-- A floating-point store: the low `w` bits, no unboxing check (R381). -/
def State.storeF (s : State) (ilen : Nat) (m : Fmt) (a : Word) (rs2 : RegIdx) : Res :=
  s.store a (m.width / 8) (s.rawF m rs2).toNat fun s' => .next (s'.retire ilen)

end Sys2Proof.Machine
end

