-- ==== Sys2Proof/Machine/Compressed.lean ====
section
/-! DEFINITION. The compressed instructions (42_compressed.md, R254 to R295): each is its 32-bit
equivalent over the operands its fields give, with an instruction length of 2 (R250). -/

namespace Sys2Proof.Machine

/-- `sp`, implicit in the stack-pointer forms (R23, R251). -/
def sp : RegIdx := 2#5

/-- `ra`, implicit in C.JAL and C.JALR (R23, R251). -/
def ra : RegIdx := 1#5

/-! ### Loads and stores -/

/-- C.LW (R254). -/
def execCLw (rd rs1 : RegIdx3) (uimm : BitVec 7) (s : State) : Res :=
  s.loadSigned 2 (wideReg rd) (s.eaU (wideReg rs1) uimm) 4
/-- C.LWSP (R255). -/
def execCLwsp (rd : RegIdx) (uimm : BitVec 8) (s : State) : Res := s.loadSigned 2 rd (s.eaU sp uimm) 4
/-- C.LD (R256). -/
def execCLd (rd rs1 : RegIdx3) (uimm : BitVec 8) (s : State) : Res :=
  s.loadSigned 2 (wideReg rd) (s.eaU (wideReg rs1) uimm) 8
/-- C.LDSP (R257). -/
def execCLdsp (rd : RegIdx) (uimm : BitVec 9) (s : State) : Res := s.loadSigned 2 rd (s.eaU sp uimm) 8
/-- C.SW (R258). -/
def execCSw (rs1 rs2 : RegIdx3) (uimm : BitVec 7) (s : State) : Res :=
  s.storeX 2 (s.eaU (wideReg rs1) uimm) (wideReg rs2) 4
/-- C.SWSP (R259). -/
def execCSwsp (rs2 : RegIdx) (uimm : BitVec 8) (s : State) : Res := s.storeX 2 (s.eaU sp uimm) rs2 4
/-- C.SD (R260). -/
def execCSd (rs1 rs2 : RegIdx3) (uimm : BitVec 8) (s : State) : Res :=
  s.storeX 2 (s.eaU (wideReg rs1) uimm) (wideReg rs2) 8
/-- C.SDSP (R261). -/
def execCSdsp (rs2 : RegIdx) (uimm : BitVec 9) (s : State) : Res := s.storeX 2 (s.eaU sp uimm) rs2 8
/-- C.FLW (R288). -/
def execCFlw (rd rs1 : RegIdx3) (uimm : BitVec 7) (s : State) : Res :=
  s.loadF 2 .s (wideReg rd) (s.eaU (wideReg rs1) uimm)
/-- C.FLWSP (R289). -/
def execCFlwsp (rd : RegIdx) (uimm : BitVec 8) (s : State) : Res := s.loadF 2 .s rd (s.eaU sp uimm)
/-- C.FSW (R290). -/
def execCFsw (rs1 rs2 : RegIdx3) (uimm : BitVec 7) (s : State) : Res :=
  s.storeF 2 .s (s.eaU (wideReg rs1) uimm) (wideReg rs2)
/-- C.FSWSP (R291). -/
def execCFswsp (rs2 : RegIdx) (uimm : BitVec 8) (s : State) : Res := s.storeF 2 .s (s.eaU sp uimm) rs2
/-- C.FLD (R292). -/
def execCFld (rd rs1 : RegIdx3) (uimm : BitVec 8) (s : State) : Res :=
  s.loadF 2 .d (wideReg rd) (s.eaU (wideReg rs1) uimm)
/-- C.FLDSP (R293). -/
def execCFldsp (rd : RegIdx) (uimm : BitVec 9) (s : State) : Res := s.loadF 2 .d rd (s.eaU sp uimm)
/-- C.FSD (R294). -/
def execCFsd (rs1 rs2 : RegIdx3) (uimm : BitVec 8) (s : State) : Res :=
  s.storeF 2 .d (s.eaU (wideReg rs1) uimm) (wideReg rs2)
/-- C.FSDSP (R295). -/
def execCFsdsp (rs2 : RegIdx) (uimm : BitVec 9) (s : State) : Res := s.storeF 2 .d (s.eaU sp uimm) rs2

/-! ### Arithmetic -/

/-- C.ADD (R262). -/
def execCAdd (rd rs2 : RegIdx) (s : State) : Res := s.finishX 2 rd (s.readX rd + s.readX rs2)
/-- C.ADDW (R263). -/
def execCAddw (rd rs2 : RegIdx3) (s : State) : Res :=
  s.finishX 2 (wideReg rd) (wordResult (s.readW (wideReg rd) + s.readW (wideReg rs2)))
/-- C.ADDI (R264). -/
def execCAddi (rd : RegIdx) (imm : BitVec 6) (s : State) : Res :=
  s.finishX 2 rd (s.readX rd + xsext s.cfg.xlen imm)
/-- C.NOP: C.ADDI with `rd = 0` and a zero immediate (R280). -/
def execCNop (s : State) : Res := s.finishX 2 0#5 (s.readX 0#5 + xsext s.cfg.xlen 0#6)
/-- C.ADDIW (R265). -/
def execCAddiw (rd : RegIdx) (imm : BitVec 6) (s : State) : Res :=
  s.finishX 2 rd (wordResult (s.readW rd + imm.signExtend 32))
/-- C.ADDI16SP (R266). -/
def execCAddi16sp (imm : BitVec 10) (s : State) : Res := s.finishX 2 sp (s.readX sp + xsext s.cfg.xlen imm)
/-- C.ADDI4SPN (R267). -/
def execCAddi4spn (rd : RegIdx3) (uimm : BitVec 10) (s : State) : Res :=
  s.finishX 2 (wideReg rd) (s.readX sp + xzext s.cfg.xlen uimm)
/-- C.LI (R268). -/
def execCLi (rd : RegIdx) (imm : BitVec 6) (s : State) : Res :=
  s.finishX 2 rd (s.readX 0#5 + xsext s.cfg.xlen imm)
/-- C.LUI: the field at bits 17:12, sign-extended from bit 17 (R269). -/
def execCLui (rd : RegIdx) (imm : BitVec 6) (s : State) : Res :=
  s.finishX 2 rd (xsext s.cfg.xlen (place 18 12 imm))
/-- C.MV (R270). -/
def execCMv (rd rs2 : RegIdx) (s : State) : Res := s.finishX 2 rd (s.readX rs2 + s.readX 0#5)
/-- C.SUB (R271). -/
def execCSub (rd rs2 : RegIdx3) (s : State) : Res :=
  s.finishX 2 (wideReg rd) (s.readX (wideReg rd) - s.readX (wideReg rs2))
/-- C.SUBW (R287). -/
def execCSubw (rd rs2 : RegIdx3) (s : State) : Res :=
  s.finishX 2 (wideReg rd) (wordResult (s.readW (wideReg rd) - s.readW (wideReg rs2)))

/-! ### Shifts and logic -/

/-- C.SLLI (R272). -/
def execCSlli (rd : RegIdx) (shamt : BitVec 6) (s : State) : Res :=
  s.finishX 2 rd (xshl s.cfg.xlen (s.readX rd) shamt.toNat)
/-- C.SRLI (R281). -/
def execCSrli (rd : RegIdx3) (shamt : BitVec 6) (s : State) : Res :=
  s.finishX 2 (wideReg rd) (xshr s.cfg.xlen (s.readX (wideReg rd)) shamt.toNat)
/-- C.SRAI (R282). -/
def execCSrai (rd : RegIdx3) (shamt : BitVec 6) (s : State) : Res :=
  s.finishX 2 (wideReg rd) (xsar s.cfg.xlen (s.readX (wideReg rd)) shamt.toNat)
/-- C.ANDI (R283). -/
def execCAndi (rd : RegIdx3) (imm : BitVec 6) (s : State) : Res :=
  s.finishX 2 (wideReg rd) (s.readX (wideReg rd) &&& xsext s.cfg.xlen imm)
/-- C.XOR (R284). -/
def execCXor (rd rs2 : RegIdx3) (s : State) : Res :=
  s.finishX 2 (wideReg rd) (s.readX (wideReg rd) ^^^ s.readX (wideReg rs2))
/-- C.OR (R285). -/
def execCOr (rd rs2 : RegIdx3) (s : State) : Res :=
  s.finishX 2 (wideReg rd) (s.readX (wideReg rd) ||| s.readX (wideReg rs2))
/-- C.AND (R286). -/
def execCAnd (rd rs2 : RegIdx3) (s : State) : Res :=
  s.finishX 2 (wideReg rd) (s.readX (wideReg rd) &&& s.readX (wideReg rs2))

/-! ### Branches, jumps and the breakpoint -/

/-- C.BEQZ (R273). -/
def execCBeqz (rs1 : RegIdx3) (imm : BitVec 9) (s : State) : Res :=
  s.branch 2 (s.readX (wideReg rs1) == s.readX 0#5) imm
/-- C.BNEZ (R274). -/
def execCBnez (rs1 : RegIdx3) (imm : BitVec 9) (s : State) : Res :=
  s.branch 2 (s.readX (wideReg rs1) != s.readX 0#5) imm
/-- C.J (R275). -/
def execCJ (imm : BitVec 12) (s : State) : Res := s.jumpLink 2 0#5 (s.pcRel imm)
/-- C.JR (R276). -/
def execCJr (rs1 : RegIdx) (s : State) : Res := s.jumpLink 2 0#5 (s.jalrTarget rs1 0#12)
/-- C.JAL: the link is `pc + 2` (R277). -/
def execCJal (imm : BitVec 12) (s : State) : Res := s.jumpLink 2 ra (s.pcRel imm)
/-- C.JALR: the link is `pc + 2` (R278). -/
def execCJalr (rs1 : RegIdx) (s : State) : Res := s.jumpLink 2 ra (s.jalrTarget rs1 0#12)
/-- C.EBREAK (R279, R503). -/
def execCEbreak (s : State) : Res := raise (.breakpoint s.pc)

end Sys2Proof.Machine
end

