-- ==== Sys2Proof/Machine/FloatArith.lean ====
section
/-! DEFINITION. Floating-point arithmetic, sign injection, minimum and maximum, comparison and
classification (46_float_arith_compare_config.md, R423 to R476). The configuration instructions
R477 to R484 are CSR instructions and stand in Machine/Priv.lean. -/

namespace Sys2Proof.Machine

/-- FADD.S (R423). -/
def execFaddS (rd rs1 rs2 : RegIdx) (rm : BitVec 3) (s : State) : Res :=
  s.arith2 (.faddS rd rs1 rs2 rm) .s Fmt.add rd rs1 rs2 rm
/-- FADD.D (R424). -/
def execFaddD (rd rs1 rs2 : RegIdx) (rm : BitVec 3) (s : State) : Res :=
  s.arith2 (.faddD rd rs1 rs2 rm) .d Fmt.add rd rs1 rs2 rm
/-- FADD.Q (R425). -/
def execFaddQ (rd rs1 rs2 : RegIdx) (rm : BitVec 3) (s : State) : Res :=
  s.arith2 (.faddQ rd rs1 rs2 rm) .q Fmt.add rd rs1 rs2 rm
/-- FSUB.S (R426). -/
def execFsubS (rd rs1 rs2 : RegIdx) (rm : BitVec 3) (s : State) : Res :=
  s.arith2 (.fsubS rd rs1 rs2 rm) .s Fmt.sub rd rs1 rs2 rm
/-- FSUB.D (R427). -/
def execFsubD (rd rs1 rs2 : RegIdx) (rm : BitVec 3) (s : State) : Res :=
  s.arith2 (.fsubD rd rs1 rs2 rm) .d Fmt.sub rd rs1 rs2 rm
/-- FSUB.Q (R428). -/
def execFsubQ (rd rs1 rs2 : RegIdx) (rm : BitVec 3) (s : State) : Res :=
  s.arith2 (.fsubQ rd rs1 rs2 rm) .q Fmt.sub rd rs1 rs2 rm
/-- FMUL.S (R429). -/
def execFmulS (rd rs1 rs2 : RegIdx) (rm : BitVec 3) (s : State) : Res :=
  s.arith2 (.fmulS rd rs1 rs2 rm) .s Fmt.mul rd rs1 rs2 rm
/-- FMUL.D (R430). -/
def execFmulD (rd rs1 rs2 : RegIdx) (rm : BitVec 3) (s : State) : Res :=
  s.arith2 (.fmulD rd rs1 rs2 rm) .d Fmt.mul rd rs1 rs2 rm
/-- FMUL.Q (R431). -/
def execFmulQ (rd rs1 rs2 : RegIdx) (rm : BitVec 3) (s : State) : Res :=
  s.arith2 (.fmulQ rd rs1 rs2 rm) .q Fmt.mul rd rs1 rs2 rm
/-- FDIV.S (R432). -/
def execFdivS (rd rs1 rs2 : RegIdx) (rm : BitVec 3) (s : State) : Res :=
  s.arith2 (.fdivS rd rs1 rs2 rm) .s Fmt.div rd rs1 rs2 rm
/-- FDIV.D (R433). -/
def execFdivD (rd rs1 rs2 : RegIdx) (rm : BitVec 3) (s : State) : Res :=
  s.arith2 (.fdivD rd rs1 rs2 rm) .d Fmt.div rd rs1 rs2 rm
/-- FDIV.Q (R434). -/
def execFdivQ (rd rs1 rs2 : RegIdx) (rm : BitVec 3) (s : State) : Res :=
  s.arith2 (.fdivQ rd rs1 rs2 rm) .q Fmt.div rd rs1 rs2 rm
/-- FSQRT.S (R435). -/
def execFsqrtS (rd rs1 : RegIdx) (rm : BitVec 3) (s : State) : Res :=
  s.arith1 (.fsqrtS rd rs1 rm) .s Fmt.sqrt rd rs1 rm
/-- FSQRT.D (R436). -/
def execFsqrtD (rd rs1 : RegIdx) (rm : BitVec 3) (s : State) : Res :=
  s.arith1 (.fsqrtD rd rs1 rm) .d Fmt.sqrt rd rs1 rm
/-- FSQRT.Q (R437). -/
def execFsqrtQ (rd rs1 : RegIdx) (rm : BitVec 3) (s : State) : Res :=
  s.arith1 (.fsqrtQ rd rs1 rm) .q Fmt.sqrt rd rs1 rm
/-- FMADD.S (R438). -/
def execFmaddS (rd rs1 rs2 rs3 : RegIdx) (rm : BitVec 3) (s : State) : Res :=
  s.arith3 (.fmaddS rd rs1 rs2 rs3 rm) .s false false rd rs1 rs2 rs3 rm
/-- FMADD.D (R439). -/
def execFmaddD (rd rs1 rs2 rs3 : RegIdx) (rm : BitVec 3) (s : State) : Res :=
  s.arith3 (.fmaddD rd rs1 rs2 rs3 rm) .d false false rd rs1 rs2 rs3 rm
/-- FMADD.Q (R440). -/
def execFmaddQ (rd rs1 rs2 rs3 : RegIdx) (rm : BitVec 3) (s : State) : Res :=
  s.arith3 (.fmaddQ rd rs1 rs2 rs3 rm) .q false false rd rs1 rs2 rs3 rm
/-- FMSUB.S (R441). -/
def execFmsubS (rd rs1 rs2 rs3 : RegIdx) (rm : BitVec 3) (s : State) : Res :=
  s.arith3 (.fmsubS rd rs1 rs2 rs3 rm) .s false true rd rs1 rs2 rs3 rm
/-- FMSUB.D (R442). -/
def execFmsubD (rd rs1 rs2 rs3 : RegIdx) (rm : BitVec 3) (s : State) : Res :=
  s.arith3 (.fmsubD rd rs1 rs2 rs3 rm) .d false true rd rs1 rs2 rs3 rm
/-- FMSUB.Q (R443). -/
def execFmsubQ (rd rs1 rs2 rs3 : RegIdx) (rm : BitVec 3) (s : State) : Res :=
  s.arith3 (.fmsubQ rd rs1 rs2 rs3 rm) .q false true rd rs1 rs2 rs3 rm
/-- FNMSUB.S (R444). -/
def execFnmsubS (rd rs1 rs2 rs3 : RegIdx) (rm : BitVec 3) (s : State) : Res :=
  s.arith3 (.fnmsubS rd rs1 rs2 rs3 rm) .s true false rd rs1 rs2 rs3 rm
/-- FNMSUB.D (R445). -/
def execFnmsubD (rd rs1 rs2 rs3 : RegIdx) (rm : BitVec 3) (s : State) : Res :=
  s.arith3 (.fnmsubD rd rs1 rs2 rs3 rm) .d true false rd rs1 rs2 rs3 rm
/-- FNMSUB.Q (R446). -/
def execFnmsubQ (rd rs1 rs2 rs3 : RegIdx) (rm : BitVec 3) (s : State) : Res :=
  s.arith3 (.fnmsubQ rd rs1 rs2 rs3 rm) .q true false rd rs1 rs2 rs3 rm
/-- FNMADD.S (R447). -/
def execFnmaddS (rd rs1 rs2 rs3 : RegIdx) (rm : BitVec 3) (s : State) : Res :=
  s.arith3 (.fnmaddS rd rs1 rs2 rs3 rm) .s true true rd rs1 rs2 rs3 rm
/-- FNMADD.D (R448). -/
def execFnmaddD (rd rs1 rs2 rs3 : RegIdx) (rm : BitVec 3) (s : State) : Res :=
  s.arith3 (.fnmaddD rd rs1 rs2 rs3 rm) .d true true rd rs1 rs2 rs3 rm
/-- FNMADD.Q (R449). -/
def execFnmaddQ (rd rs1 rs2 rs3 : RegIdx) (rm : BitVec 3) (s : State) : Res :=
  s.arith3 (.fnmaddQ rd rs1 rs2 rs3 rm) .q true true rd rs1 rs2 rs3 rm
/-- FSGNJ.S (R450). -/
def execFsgnjS (rd rs1 rs2 : RegIdx) (s : State) : Res := s.signInject .s (fun _ b => b) rd rs1 rs2
/-- FSGNJ.D (R451). -/
def execFsgnjD (rd rs1 rs2 : RegIdx) (s : State) : Res := s.signInject .d (fun _ b => b) rd rs1 rs2
/-- FSGNJ.Q (R452). -/
def execFsgnjQ (rd rs1 rs2 : RegIdx) (s : State) : Res := s.signInject .q (fun _ b => b) rd rs1 rs2
/-- FSGNJN.S (R453). -/
def execFsgnjnS (rd rs1 rs2 : RegIdx) (s : State) : Res := s.signInject .s (fun _ b => !b) rd rs1 rs2
/-- FSGNJN.D (R454). -/
def execFsgnjnD (rd rs1 rs2 : RegIdx) (s : State) : Res := s.signInject .d (fun _ b => !b) rd rs1 rs2
/-- FSGNJN.Q (R455). -/
def execFsgnjnQ (rd rs1 rs2 : RegIdx) (s : State) : Res := s.signInject .q (fun _ b => !b) rd rs1 rs2
/-- FSGNJX.S (R456). -/
def execFsgnjxS (rd rs1 rs2 : RegIdx) (s : State) : Res := s.signInject .s (fun a b => a != b) rd rs1 rs2
/-- FSGNJX.D (R457). -/
def execFsgnjxD (rd rs1 rs2 : RegIdx) (s : State) : Res := s.signInject .d (fun a b => a != b) rd rs1 rs2
/-- FSGNJX.Q (R458). -/
def execFsgnjxQ (rd rs1 rs2 : RegIdx) (s : State) : Res := s.signInject .q (fun a b => a != b) rd rs1 rs2
/-- FMIN.S (R459). -/
def execFminS (rd rs1 rs2 : RegIdx) (s : State) : Res := s.minMax .s false rd rs1 rs2
/-- FMIN.D (R460). -/
def execFminD (rd rs1 rs2 : RegIdx) (s : State) : Res := s.minMax .d false rd rs1 rs2
/-- FMIN.Q (R461). -/
def execFminQ (rd rs1 rs2 : RegIdx) (s : State) : Res := s.minMax .q false rd rs1 rs2
/-- FMAX.S (R462). -/
def execFmaxS (rd rs1 rs2 : RegIdx) (s : State) : Res := s.minMax .s true rd rs1 rs2
/-- FMAX.D (R463). -/
def execFmaxD (rd rs1 rs2 : RegIdx) (s : State) : Res := s.minMax .d true rd rs1 rs2
/-- FMAX.Q (R464). -/
def execFmaxQ (rd rs1 rs2 : RegIdx) (s : State) : Res := s.minMax .q true rd rs1 rs2
/-- FEQ.S (R465). -/
def execFeqS (rd rs1 rs2 : RegIdx) (s : State) : Res := s.compareF .s Fmt.eq rd rs1 rs2
/-- FEQ.D (R466). -/
def execFeqD (rd rs1 rs2 : RegIdx) (s : State) : Res := s.compareF .d Fmt.eq rd rs1 rs2
/-- FEQ.Q (R467). -/
def execFeqQ (rd rs1 rs2 : RegIdx) (s : State) : Res := s.compareF .q Fmt.eq rd rs1 rs2
/-- FLT.S (R468). -/
def execFltS (rd rs1 rs2 : RegIdx) (s : State) : Res := s.compareF .s Fmt.lt rd rs1 rs2
/-- FLT.D (R469). -/
def execFltD (rd rs1 rs2 : RegIdx) (s : State) : Res := s.compareF .d Fmt.lt rd rs1 rs2
/-- FLT.Q (R470). -/
def execFltQ (rd rs1 rs2 : RegIdx) (s : State) : Res := s.compareF .q Fmt.lt rd rs1 rs2
/-- FLE.S (R471). -/
def execFleS (rd rs1 rs2 : RegIdx) (s : State) : Res := s.compareF .s Fmt.le rd rs1 rs2
/-- FLE.D (R472). -/
def execFleD (rd rs1 rs2 : RegIdx) (s : State) : Res := s.compareF .d Fmt.le rd rs1 rs2
/-- FLE.Q (R473). -/
def execFleQ (rd rs1 rs2 : RegIdx) (s : State) : Res := s.compareF .q Fmt.le rd rs1 rs2
/-- FCLASS.S (R474). -/
def execFclassS (rd rs1 : RegIdx) (s : State) : Res := s.classify .s rd rs1
/-- FCLASS.D (R475). -/
def execFclassD (rd rs1 : RegIdx) (s : State) : Res := s.classify .d rd rs1
/-- FCLASS.Q (R476). -/
def execFclassQ (rd rs1 : RegIdx) (s : State) : Res := s.classify .q rd rs1

end Sys2Proof.Machine
end

