-- ==== Sys2Proof/Machine/FloatMove.lean ====
section
/-! DEFINITION. Floating-point moves, loads, stores and conversions
(45_float_move_convert_mem.md, R373 to R415). -/

namespace Sys2Proof.Machine

/-- FMV.S.X (R373). -/
def execFmvSX (rd rs1 : RegIdx) (s : State) : Res := s.finishF 4 .s rd ((s.readX rs1).setWidth 128, noFlags)
/-- FMV.X.S (R374). -/
def execFmvXS (rd rs1 : RegIdx) (s : State) : Res :=
  s.finishX 4 rd (xsext s.cfg.xlen ((s.readF rs1).setWidth 32))
/-- FMV.D.X (R375). -/
def execFmvDX (rd rs1 : RegIdx) (s : State) : Res := s.finishF 4 .d rd ((s.readX rs1).setWidth 128, noFlags)
/-- FMV.X.D (R376). -/
def execFmvXD (rd rs1 : RegIdx) (s : State) : Res := s.finishX 4 rd ((s.readF rs1).setWidth 64)
/-- FLW (R380). -/
def execFlw (rd rs1 : RegIdx) (imm : BitVec 12) (s : State) : Res := s.loadF 4 .s rd (s.ea rs1 imm)
/-- FSW (R381). -/
def execFsw (rs1 rs2 : RegIdx) (imm : BitVec 12) (s : State) : Res := s.storeF 4 .s (s.ea rs1 imm) rs2
/-- FLD (R382). -/
def execFld (rd rs1 : RegIdx) (imm : BitVec 12) (s : State) : Res := s.loadF 4 .d rd (s.ea rs1 imm)
/-- FSD (R383). -/
def execFsd (rs1 rs2 : RegIdx) (imm : BitVec 12) (s : State) : Res := s.storeF 4 .d (s.ea rs1 imm) rs2
/-- FLQ (R384). -/
def execFlq (rd rs1 : RegIdx) (imm : BitVec 12) (s : State) : Res := s.loadF 4 .q rd (s.ea rs1 imm)
/-- FSQ (R385). -/
def execFsq (rs1 rs2 : RegIdx) (imm : BitVec 12) (s : State) : Res := s.storeF 4 .q (s.ea rs1 imm) rs2
/-- FCVT.S.W (R386). -/
def execFcvtSW (rd rs1 : RegIdx) (rm : BitVec 3) (s : State) : Res :=
  s.convertFromInt (.fcvtSW rd rs1 rm) .s (s.readW rs1).toInt rd rm
/-- FCVT.D.W (R387). -/
def execFcvtDW (rd rs1 : RegIdx) (rm : BitVec 3) (s : State) : Res :=
  s.convertFromInt (.fcvtDW rd rs1 rm) .d (s.readW rs1).toInt rd rm
/-- FCVT.Q.W (R388). -/
def execFcvtQW (rd rs1 : RegIdx) (rm : BitVec 3) (s : State) : Res :=
  s.convertFromInt (.fcvtQW rd rs1 rm) .q (s.readW rs1).toInt rd rm
/-- FCVT.S.WU (R389). -/
def execFcvtSWU (rd rs1 : RegIdx) (rm : BitVec 3) (s : State) : Res :=
  s.convertFromInt (.fcvtSWU rd rs1 rm) .s (s.readW rs1).toNat rd rm
/-- FCVT.D.WU (R390). -/
def execFcvtDWU (rd rs1 : RegIdx) (rm : BitVec 3) (s : State) : Res :=
  s.convertFromInt (.fcvtDWU rd rs1 rm) .d (s.readW rs1).toNat rd rm
/-- FCVT.Q.WU (R391). -/
def execFcvtQWU (rd rs1 : RegIdx) (rm : BitVec 3) (s : State) : Res :=
  s.convertFromInt (.fcvtQWU rd rs1 rm) .q (s.readW rs1).toNat rd rm
/-- FCVT.S.L (R392). -/
def execFcvtSL (rd rs1 : RegIdx) (rm : BitVec 3) (s : State) : Res :=
  s.convertFromInt (.fcvtSL rd rs1 rm) .s (s.readX rs1).toInt rd rm
/-- FCVT.D.L (R393). -/
def execFcvtDL (rd rs1 : RegIdx) (rm : BitVec 3) (s : State) : Res :=
  s.convertFromInt (.fcvtDL rd rs1 rm) .d (s.readX rs1).toInt rd rm
/-- FCVT.Q.L (R394). -/
def execFcvtQL (rd rs1 : RegIdx) (rm : BitVec 3) (s : State) : Res :=
  s.convertFromInt (.fcvtQL rd rs1 rm) .q (s.readX rs1).toInt rd rm
/-- FCVT.S.LU (R395). -/
def execFcvtSLU (rd rs1 : RegIdx) (rm : BitVec 3) (s : State) : Res :=
  s.convertFromInt (.fcvtSLU rd rs1 rm) .s (s.readX rs1).toNat rd rm
/-- FCVT.D.LU (R396). -/
def execFcvtDLU (rd rs1 : RegIdx) (rm : BitVec 3) (s : State) : Res :=
  s.convertFromInt (.fcvtDLU rd rs1 rm) .d (s.readX rs1).toNat rd rm
/-- FCVT.Q.LU (R397). -/
def execFcvtQLU (rd rs1 : RegIdx) (rm : BitVec 3) (s : State) : Res :=
  s.convertFromInt (.fcvtQLU rd rs1 rm) .q (s.readX rs1).toNat rd rm
/-- FCVT.W.S (R398). -/
def execFcvtWS (rd rs1 : RegIdx) (rm : BitVec 3) (s : State) : Res :=
  s.convertToInt (.fcvtWS rd rs1 rm) .s true 32 rd rs1 rm
/-- FCVT.W.D (R399). -/
def execFcvtWD (rd rs1 : RegIdx) (rm : BitVec 3) (s : State) : Res :=
  s.convertToInt (.fcvtWD rd rs1 rm) .d true 32 rd rs1 rm
/-- FCVT.W.Q (R400). -/
def execFcvtWQ (rd rs1 : RegIdx) (rm : BitVec 3) (s : State) : Res :=
  s.convertToInt (.fcvtWQ rd rs1 rm) .q true 32 rd rs1 rm
/-- FCVT.WU.S (R401). -/
def execFcvtWUS (rd rs1 : RegIdx) (rm : BitVec 3) (s : State) : Res :=
  s.convertToInt (.fcvtWUS rd rs1 rm) .s false 32 rd rs1 rm
/-- FCVT.WU.D (R402). -/
def execFcvtWUD (rd rs1 : RegIdx) (rm : BitVec 3) (s : State) : Res :=
  s.convertToInt (.fcvtWUD rd rs1 rm) .d false 32 rd rs1 rm
/-- FCVT.WU.Q (R403). -/
def execFcvtWUQ (rd rs1 : RegIdx) (rm : BitVec 3) (s : State) : Res :=
  s.convertToInt (.fcvtWUQ rd rs1 rm) .q false 32 rd rs1 rm
/-- FCVT.L.S (R404). -/
def execFcvtLS (rd rs1 : RegIdx) (rm : BitVec 3) (s : State) : Res :=
  s.convertToInt (.fcvtLS rd rs1 rm) .s true 64 rd rs1 rm
/-- FCVT.L.D (R405). -/
def execFcvtLD (rd rs1 : RegIdx) (rm : BitVec 3) (s : State) : Res :=
  s.convertToInt (.fcvtLD rd rs1 rm) .d true 64 rd rs1 rm
/-- FCVT.L.Q (R406). -/
def execFcvtLQ (rd rs1 : RegIdx) (rm : BitVec 3) (s : State) : Res :=
  s.convertToInt (.fcvtLQ rd rs1 rm) .q true 64 rd rs1 rm
/-- FCVT.LU.S (R407). -/
def execFcvtLUS (rd rs1 : RegIdx) (rm : BitVec 3) (s : State) : Res :=
  s.convertToInt (.fcvtLUS rd rs1 rm) .s false 64 rd rs1 rm
/-- FCVT.LU.D (R408). -/
def execFcvtLUD (rd rs1 : RegIdx) (rm : BitVec 3) (s : State) : Res :=
  s.convertToInt (.fcvtLUD rd rs1 rm) .d false 64 rd rs1 rm
/-- FCVT.LU.Q (R409). -/
def execFcvtLUQ (rd rs1 : RegIdx) (rm : BitVec 3) (s : State) : Res :=
  s.convertToInt (.fcvtLUQ rd rs1 rm) .q false 64 rd rs1 rm
/-- FCVT.S.D (R410). -/
def execFcvtSD (rd rs1 : RegIdx) (rm : BitVec 3) (s : State) : Res :=
  s.convertFormat (.fcvtSD rd rs1 rm) .d .s rd rs1 rm
/-- FCVT.D.S (R411). -/
def execFcvtDS (rd rs1 : RegIdx) (rm : BitVec 3) (s : State) : Res :=
  s.convertFormat (.fcvtDS rd rs1 rm) .s .d rd rs1 rm
/-- FCVT.S.Q (R412). -/
def execFcvtSQ (rd rs1 : RegIdx) (rm : BitVec 3) (s : State) : Res :=
  s.convertFormat (.fcvtSQ rd rs1 rm) .q .s rd rs1 rm
/-- FCVT.Q.S (R413). -/
def execFcvtQS (rd rs1 : RegIdx) (rm : BitVec 3) (s : State) : Res :=
  s.convertFormat (.fcvtQS rd rs1 rm) .s .q rd rs1 rm
/-- FCVT.D.Q (R414). -/
def execFcvtDQ (rd rs1 : RegIdx) (rm : BitVec 3) (s : State) : Res :=
  s.convertFormat (.fcvtDQ rd rs1 rm) .q .d rd rs1 rm
/-- FCVT.Q.D (R415). -/
def execFcvtQD (rd rs1 : RegIdx) (rm : BitVec 3) (s : State) : Res :=
  s.convertFormat (.fcvtQD rd rs1 rm) .d .q rd rs1 rm

end Sys2Proof.Machine
end

