-- ==== Sys2Proof/Machine/MulDiv.lean ====
section
/-! DEFINITION. The M extension (43_muldiv.md, R320 to R334): exact integer arithmetic, narrowed at
the end; no operand value traps (R320). -/

namespace Sys2Proof.Machine

/-- Signed division of `w`-bit values: all ones by zero, the dividend on overflow, else rounded
towards zero (R321, R326). -/
def divSigned {w : Nat} (a b : BitVec w) : BitVec w :=
  if b = 0#w then BitVec.allOnes w
  else if a.toInt = -(2 : Int) ^ (w - 1) ∧ b.toInt = -1 then a
  else BitVec.ofInt w (a.toInt.tdiv b.toInt)

/-- Unsigned division: all ones by zero (R321, R327). -/
def divUnsigned {w : Nat} (a b : BitVec w) : BitVec w :=
  if b = 0#w then BitVec.allOnes w else BitVec.ofNat w (a.toNat / b.toNat)

/-- Signed remainder: the dividend by zero, 0 on overflow, else with the sign of the dividend (R321,
R328). -/
def remSigned {w : Nat} (a b : BitVec w) : BitVec w :=
  if b = 0#w then a
  else if a.toInt = -(2 : Int) ^ (w - 1) ∧ b.toInt = -1 then 0#w
  else BitVec.ofInt w (a.toInt - b.toInt * a.toInt.tdiv b.toInt)

/-- Unsigned remainder: the dividend by zero (R321, R329). -/
def remUnsigned {w : Nat} (a b : BitVec w) : BitVec w :=
  if b = 0#w then a else BitVec.ofNat w (a.toNat % b.toNat)

/-- A division or remainder at `XLEN` bits. -/
def xdivide (x : Xlen) (op : {w : Nat} → BitVec w → BitVec w → BitVec w) (a b : Word) : Word :=
  match x with
  | .rv32 => (op (a.setWidth 32) (b.setWidth 32)).setWidth 64
  | .rv64 => op a b

/-- Bits `2*XLEN-1` to `XLEN` of an exact product (R323 to R325). -/
def upperHalf (x : Xlen) (p : Int) : Word := xofInt x (p / 2 ^ x.bits)

/-- MUL (R322). -/
def execMul (rd rs1 rs2 : RegIdx) (s : State) : Res := s.finishX 4 rd (s.readX rs1 * s.readX rs2)
/-- MULH (R323). -/
def execMulh (rd rs1 rs2 : RegIdx) (s : State) : Res :=
  let x := s.cfg.xlen
  s.finishX 4 rd (upperHalf x (xsigned x (s.readX rs1) * xsigned x (s.readX rs2)))
/-- MULHSU (R324). -/
def execMulhsu (rd rs1 rs2 : RegIdx) (s : State) : Res :=
  let x := s.cfg.xlen
  s.finishX 4 rd (upperHalf x (xsigned x (s.readX rs1) * xunsigned x (s.readX rs2)))
/-- MULHU (R325). -/
def execMulhu (rd rs1 rs2 : RegIdx) (s : State) : Res :=
  let x := s.cfg.xlen
  s.finishX 4 rd (upperHalf x ((xunsigned x (s.readX rs1) * xunsigned x (s.readX rs2) : Nat) : Int))
/-- DIV (R326). -/
def execDiv (rd rs1 rs2 : RegIdx) (s : State) : Res :=
  s.finishX 4 rd (xdivide s.cfg.xlen divSigned (s.readX rs1) (s.readX rs2))
/-- DIVU (R327). -/
def execDivu (rd rs1 rs2 : RegIdx) (s : State) : Res :=
  s.finishX 4 rd (xdivide s.cfg.xlen divUnsigned (s.readX rs1) (s.readX rs2))
/-- REM (R328). -/
def execRem (rd rs1 rs2 : RegIdx) (s : State) : Res :=
  s.finishX 4 rd (xdivide s.cfg.xlen remSigned (s.readX rs1) (s.readX rs2))
/-- REMU (R329). -/
def execRemu (rd rs1 rs2 : RegIdx) (s : State) : Res :=
  s.finishX 4 rd (xdivide s.cfg.xlen remUnsigned (s.readX rs1) (s.readX rs2))
/-- MULW (R330). -/
def execMulw (rd rs1 rs2 : RegIdx) (s : State) : Res := s.finishX 4 rd (wordResult (s.readW rs1 * s.readW rs2))
/-- DIVW (R331). -/
def execDivw (rd rs1 rs2 : RegIdx) (s : State) : Res :=
  s.finishX 4 rd (wordResult (divSigned (s.readW rs1) (s.readW rs2)))
/-- DIVUW (R332). -/
def execDivuw (rd rs1 rs2 : RegIdx) (s : State) : Res :=
  s.finishX 4 rd (wordResult (divUnsigned (s.readW rs1) (s.readW rs2)))
/-- REMW (R333). -/
def execRemw (rd rs1 rs2 : RegIdx) (s : State) : Res :=
  s.finishX 4 rd (wordResult (remSigned (s.readW rs1) (s.readW rs2)))
/-- REMUW (R334). -/
def execRemuw (rd rs1 rs2 : RegIdx) (s : State) : Res :=
  s.finishX 4 rd (wordResult (remUnsigned (s.readW rs1) (s.readW rs2)))

end Sys2Proof.Machine
end

