-- ==== Sys2Proof/Machine/Priv.lean ====
section
/-! DEFINITION. CSR access and the privileged instructions (41_privileged_instructions.md, R220 to
R235), and the instructions that are CSR instructions with fixed operands: the counter reads (R197
to R202) and the floating-point configuration instructions (R477 to R484). -/

namespace Sys2Proof.Machine

/-! ### The CSRs -/

/-- A CSR that exists (R33), or one of `CsrExtra` (R32). -/
inductive Csr where
  | fflags
  | frm
  | fcsr
  | cycle
  | time
  | instret
  | cycleh
  | timeh
  | instreth
  | extra (e : ExtraCsr)
deriving DecidableEq, Repr

/-- The CSR of R33 with a number, where it exists under `XLEN` and `EXT`. -/
def State.standardCsr (s : State) (n : BitVec 12) : Option Csr :=
  let ifF (c : Csr) := if s.cfg.ext.f then some c else none
  let ifRv32 (c : Csr) := if s.cfg.xlen = .rv32 then some c else none
  match n with
  | 0x001#12 => ifF .fflags
  | 0x002#12 => ifF .frm
  | 0x003#12 => ifF .fcsr
  | 0xC00#12 => some .cycle
  | 0xC01#12 => some .time
  | 0xC02#12 => some .instret
  | 0xC80#12 => ifRv32 .cycleh
  | 0xC81#12 => ifRv32 .timeh
  | 0xC82#12 => ifRv32 .instreth
  | _ => none

/-- The numbers of R33's table, whether or not the CSR exists under `XLEN` and `EXT`. -/
def standardNumbers : List (BitVec 12) :=
  [0x001#12, 0x002#12, 0x003#12, 0xC00#12, 0xC01#12, 0xC02#12, 0xC80#12, 0xC81#12, 0xC82#12]

/-- The CSR with a number, or none where R32 gives it no existence. A number of R33's table is R33's
alone: `CsrExtra`, the CSRs "beyond those" of R33 (R9), gives it no CSR where R33's does not exist, so
that FRCSR raises without F (R477). DESIGN CHOICE, log entry 9: R9 also says "any table". -/
def State.csrAt (s : State) (n : BitVec 12) : Option Csr :=
  if standardNumbers.contains n then s.standardCsr n
  else (s.cfg.csrExtra.find? fun e => e.number == n).map .extra

/-- `n[11:10] = 11` marks a read-only CSR (R32). -/
def csrReadOnly (n : BitVec 12) : Bool := n.extractLsb' 10 2 == 0b11#2

/-- The larger of two unsigned 64-bit values. -/
def umax (a b : BitVec 64) : BitVec 64 := if a.toNat ≤ b.toNat then b else a

/-- The next value of `cycle`: a draw, no smaller than the last one delivered (R34, D13). -/
def State.nextCycle (s : State) : BitVec 64 := umax s.cycleLast (Config.cycleDraw s.draws)

/-- The next value of `time`: a draw, no smaller than the last one delivered (R35, D13). -/
def State.nextTime (s : State) : BitVec 64 := umax s.timeLast (Config.timeDraw s.draws)

/-- The state after a read of `cycle`. -/
def State.drawCycle (s : State) : State := { s with cycleLast := s.nextCycle, draws := s.draws + 1 }

/-- The state after a read of `time`. -/
def State.drawTime (s : State) : State := { s with timeLast := s.nextTime, draws := s.draws + 1 }

/-- The value of a CSR of `CsrExtra`: what was last written to it, or zero. -/
def State.extraValue (s : State) (e : ExtraCsr) : Word :=
  (((s.extraCsrs.find? fun p => p.1 == e.number).map (·.2)).getD 0#64) &&& e.mask

/-- `csr[n]`: the value, zero-extended to `XLEN`, and the state after the read (R33 to R39). -/
def State.csrRead (s : State) (c : Csr) : Word × State :=
  let x := s.cfg.xlen
  match c with
  | .fflags => (s.fflags.setWidth 64, s)
  | .frm => (s.frm.setWidth 64, s)
  | .fcsr => (s.fcsr.setWidth 64, s)
  | .cycle => (xtrunc x s.nextCycle, s.drawCycle)
  | .time => (xtrunc x s.nextTime, s.drawTime)
  | .instret => (xtrunc x s.instret, s)
  | .cycleh => (s.nextCycle >>> 32, s.drawCycle)
  | .timeh => (s.nextTime >>> 32, s.drawTime)
  | .instreth => (s.instret >>> 32, s)
  | .extra e => (xtrunc x (s.extraValue e), s)

/-- `csr[n] <- v`, truncated to the implemented bits (R37 to R39). The counters are read-only and
are never reached (R220). -/
def State.csrWrite (s : State) (c : Csr) (v : Word) : State :=
  match c with
  | .fflags => { s with fcsr := fcsrOf s.frm (v.extractLsb' 0 5) }
  | .frm => { s with fcsr := fcsrOf (v.extractLsb' 0 3) s.fflags }
  | .fcsr => { s with fcsr := v.extractLsb' 0 8 }
  | .extra e =>
    { s with extraCsrs := (e.number, xtrunc s.cfg.xlen (v &&& e.mask)) ::
        s.extraCsrs.filter fun p => p.1 != e.number }
  | .cycle | .time | .instret | .cycleh | .timeh | .instreth => s

/-- Steps 4 and 5 of R220 on a CSR that exists: read, write, and `x[rd] <- old`. -/
def State.csrAccess (s : State) (rd : RegIdx) (c : Csr) (reads writes : Bool) (new : Word → Word) : State :=
  let (old, s1) := if reads then s.csrRead c else (0#64, s)
  let s2 := if writes then s1.csrWrite c (new old) else s1
  if reads then s2.writeX rd old else s2

/-- The common law of CSR instructions (R220): `i` is the instruction, for the reported word; `new`
gives the value written from the old one. -/
def State.csrLaw (s : State) (i : Instr) (rd : RegIdx) (csr : BitVec 12) (reads writes : Bool)
    (new : Word → Word) : Res :=
  match s.csrAt csr with
  | none => raiseIllegal i
  | some c =>
    if writes && csrReadOnly csr then raiseIllegal i
    else .next ((s.csrAccess rd c reads writes new).retire 4)

/-- Read and write (R221, R224): always writes, reads where `rd` is not `x0`. -/
def State.csrSwap (s : State) (i : Instr) (rd : RegIdx) (csr : BitVec 12) (v : Word) : Res :=
  s.csrLaw i rd csr (rd != 0#5) true fun _ => v

/-- Read and set bits (R222, R225): writes where its field is not zero. -/
def State.csrSet (s : State) (i : Instr) (rd : RegIdx) (csr : BitVec 12) (field : BitVec 5) (v : Word) : Res :=
  s.csrLaw i rd csr true (field != 0#5) fun old => old ||| v

/-- Read and clear bits (R223, R226): writes where its field is not zero. -/
def State.csrClear (s : State) (i : Instr) (rd : RegIdx) (csr : BitVec 12) (field : BitVec 5) (v : Word) : Res :=
  s.csrLaw i rd csr true (field != 0#5) fun old => old &&& ~~~v

/-! ### CSR access -/

/-- CSRRW (R221). -/
def execCsrrw (rd : RegIdx) (csr : BitVec 12) (rs1 : RegIdx) (s : State) : Res :=
  s.csrSwap (.csrrw rd csr rs1) rd csr (s.readX rs1)
/-- CSRRS (R222). -/
def execCsrrs (rd : RegIdx) (csr : BitVec 12) (rs1 : RegIdx) (s : State) : Res :=
  s.csrSet (.csrrs rd csr rs1) rd csr rs1 (s.readX rs1)
/-- CSRRC (R223). -/
def execCsrrc (rd : RegIdx) (csr : BitVec 12) (rs1 : RegIdx) (s : State) : Res :=
  s.csrClear (.csrrc rd csr rs1) rd csr rs1 (s.readX rs1)
/-- CSRRWI (R224). -/
def execCsrrwi (rd : RegIdx) (csr : BitVec 12) (zimm : BitVec 5) (s : State) : Res :=
  s.csrSwap (.csrrwi rd csr zimm) rd csr (zimm.setWidth 64)
/-- CSRRSI (R225). -/
def execCsrrsi (rd : RegIdx) (csr : BitVec 12) (zimm : BitVec 5) (s : State) : Res :=
  s.csrSet (.csrrsi rd csr zimm) rd csr zimm (zimm.setWidth 64)
/-- CSRRCI (R226). -/
def execCsrrci (rd : RegIdx) (csr : BitVec 12) (zimm : BitVec 5) (s : State) : Res :=
  s.csrClear (.csrrci rd csr zimm) rd csr zimm (zimm.setWidth 64)

/-! ### Counters: CSRRS with `x0` (R128) -/

/-- RDCYCLE (R197). -/
def execRdcycle (rd : RegIdx) (s : State) : Res := s.csrSet (.rdcycle rd) rd 0xC00#12 0#5 0#64
/-- RDCYCLEH (R198). -/
def execRdcycleh (rd : RegIdx) (s : State) : Res := s.csrSet (.rdcycleh rd) rd 0xC80#12 0#5 0#64
/-- RDTIME (R199). -/
def execRdtime (rd : RegIdx) (s : State) : Res := s.csrSet (.rdtime rd) rd 0xC01#12 0#5 0#64
/-- RDTIMEH (R200). -/
def execRdtimeh (rd : RegIdx) (s : State) : Res := s.csrSet (.rdtimeh rd) rd 0xC81#12 0#5 0#64
/-- RDINSTRET (R201). -/
def execRdinstret (rd : RegIdx) (s : State) : Res := s.csrSet (.rdinstret rd) rd 0xC02#12 0#5 0#64
/-- RDINSTRETH (R202). -/
def execRdinstreth (rd : RegIdx) (s : State) : Res := s.csrSet (.rdinstreth rd) rd 0xC82#12 0#5 0#64

/-! ### Floating-point configuration (R128, R477 to R484) -/

/-- FRCSR (R477). -/
def execFrcsr (rd : RegIdx) (s : State) : Res := s.csrSet (.frcsr rd) rd 0x003#12 0#5 0#64
/-- FRRM (R478). -/
def execFrrm (rd : RegIdx) (s : State) : Res := s.csrSet (.frrm rd) rd 0x002#12 0#5 0#64
/-- FRFLAGS (R479). -/
def execFrflags (rd : RegIdx) (s : State) : Res := s.csrSet (.frflags rd) rd 0x001#12 0#5 0#64
/-- FSCSR (R480). -/
def execFscsr (rd rs1 : RegIdx) (s : State) : Res := s.csrSwap (.fscsr rd rs1) rd 0x003#12 (s.readX rs1)
/-- FSRM (R481). -/
def execFsrm (rd rs1 : RegIdx) (s : State) : Res := s.csrSwap (.fsrm rd rs1) rd 0x002#12 (s.readX rs1)
/-- FSFLAGS (R482). -/
def execFsflags (rd rs1 : RegIdx) (s : State) : Res := s.csrSwap (.fsflags rd rs1) rd 0x001#12 (s.readX rs1)
/-- FSRMI (R483). -/
def execFsrmi (rd : RegIdx) (zimm : BitVec 5) (s : State) : Res :=
  s.csrSwap (.fsrmi rd zimm) rd 0x002#12 (zimm.setWidth 64)
/-- FSFLAGSI (R484). -/
def execFsflagsi (rd : RegIdx) (zimm : BitVec 5) (s : State) : Res :=
  s.csrSwap (.fsflagsi rd zimm) rd 0x001#12 (zimm.setWidth 64)

/-! ### Change level, trap redirect, interrupt, MMU -/

/-- ECALL, the same instruction as SCALL (R227, R503). -/
def execEcall (_s : State) : Res := raise .environmentCall
/-- EBREAK, the same instruction as SBREAK (R228, R503). -/
def execEbreak (s : State) : Res := raise (.breakpoint s.pc)
/-- ERET (R229, R235). -/
def execEret (_s : State) : Res := refusePrivileged "ERET"
/-- MRTS (R230, R235). -/
def execMrts (_s : State) : Res := refusePrivileged "MRTS"
/-- MRTH (R231, R235). -/
def execMrth (_s : State) : Res := refusePrivileged "MRTH"
/-- HRTS (R232, R235). -/
def execHrts (_s : State) : Res := refusePrivileged "HRTS"
/-- WFI (R233): refused, or no effect, by `WFI_MODE`. -/
def execWfi (s : State) : Res :=
  match s.cfg.wfiMode with
  | .refuse => refusePrivileged "WFI"
  | .nop => .next (s.retire 4)
/-- SFENCE.VM (R234, R235). -/
def execSfenceVm (_rs1 : RegIdx) (_s : State) : Res := refusePrivileged "SFENCE.VM"

end Sys2Proof.Machine
end

