-- ==== Sys2Proof/Machine/Dispatch.lean ====
section
/-! DEFINITION. The dispatch: one arm per instruction, each one call of its meaning. -/

namespace Sys2Proof.Machine

def exec (i : Instr) (s : State) : Host.Outcome State Fault Refusal :=
  match i with
  | .lb rd rs1 imm => Sys2Proof.Machine.execLb rd rs1 imm s
  | .lh rd rs1 imm => Sys2Proof.Machine.execLh rd rs1 imm s
  | .lw rd rs1 imm => Sys2Proof.Machine.execLw rd rs1 imm s
  | .lbu rd rs1 imm => Sys2Proof.Machine.execLbu rd rs1 imm s
  | .lhu rd rs1 imm => Sys2Proof.Machine.execLhu rd rs1 imm s
  | .ld rd rs1 imm => Sys2Proof.Machine.execLd rd rs1 imm s
  | .lwu rd rs1 imm => Sys2Proof.Machine.execLwu rd rs1 imm s
  | .sb rs1 rs2 imm => Sys2Proof.Machine.execSb rs1 rs2 imm s
  | .sh rs1 rs2 imm => Sys2Proof.Machine.execSh rs1 rs2 imm s
  | .sw rs1 rs2 imm => Sys2Proof.Machine.execSw rs1 rs2 imm s
  | .sd rs1 rs2 imm => Sys2Proof.Machine.execSd rs1 rs2 imm s
  | .sll rd rs1 rs2 => Sys2Proof.Machine.execSll rd rs1 rs2 s
  | .slli rd rs1 shamt => Sys2Proof.Machine.execSlli rd rs1 shamt s
  | .srl rd rs1 rs2 => Sys2Proof.Machine.execSrl rd rs1 rs2 s
  | .srli rd rs1 shamt => Sys2Proof.Machine.execSrli rd rs1 shamt s
  | .sra rd rs1 rs2 => Sys2Proof.Machine.execSra rd rs1 rs2 s
  | .srai rd rs1 shamt => Sys2Proof.Machine.execSrai rd rs1 shamt s
  | .sllw rd rs1 rs2 => Sys2Proof.Machine.execSllw rd rs1 rs2 s
  | .slliw rd rs1 shamt => Sys2Proof.Machine.execSlliw rd rs1 shamt s
  | .srlw rd rs1 rs2 => Sys2Proof.Machine.execSrlw rd rs1 rs2 s
  | .srliw rd rs1 shamt => Sys2Proof.Machine.execSrliw rd rs1 shamt s
  | .sraw rd rs1 rs2 => Sys2Proof.Machine.execSraw rd rs1 rs2 s
  | .sraiw rd rs1 shamt => Sys2Proof.Machine.execSraiw rd rs1 shamt s
  | .add rd rs1 rs2 => Sys2Proof.Machine.execAdd rd rs1 rs2 s
  | .addi rd rs1 imm => Sys2Proof.Machine.execAddi rd rs1 imm s
  | .sub rd rs1 rs2 => Sys2Proof.Machine.execSub rd rs1 rs2 s
  | .addw rd rs1 rs2 => Sys2Proof.Machine.execAddw rd rs1 rs2 s
  | .addiw rd rs1 imm => Sys2Proof.Machine.execAddiw rd rs1 imm s
  | .subw rd rs1 rs2 => Sys2Proof.Machine.execSubw rd rs1 rs2 s
  | .lui rd imm => Sys2Proof.Machine.execLui rd imm s
  | .auipc rd imm => Sys2Proof.Machine.execAuipc rd imm s
  | .xor rd rs1 rs2 => Sys2Proof.Machine.execXor rd rs1 rs2 s
  | .xori rd rs1 imm => Sys2Proof.Machine.execXori rd rs1 imm s
  | .or rd rs1 rs2 => Sys2Proof.Machine.execOr rd rs1 rs2 s
  | .ori rd rs1 imm => Sys2Proof.Machine.execOri rd rs1 imm s
  | .and rd rs1 rs2 => Sys2Proof.Machine.execAnd rd rs1 rs2 s
  | .andi rd rs1 imm => Sys2Proof.Machine.execAndi rd rs1 imm s
  | .slt rd rs1 rs2 => Sys2Proof.Machine.execSlt rd rs1 rs2 s
  | .slti rd rs1 imm => Sys2Proof.Machine.execSlti rd rs1 imm s
  | .sltu rd rs1 rs2 => Sys2Proof.Machine.execSltu rd rs1 rs2 s
  | .sltiu rd rs1 imm => Sys2Proof.Machine.execSltiu rd rs1 imm s
  | .beq rs1 rs2 imm => Sys2Proof.Machine.execBeq rs1 rs2 imm s
  | .bne rs1 rs2 imm => Sys2Proof.Machine.execBne rs1 rs2 imm s
  | .blt rs1 rs2 imm => Sys2Proof.Machine.execBlt rs1 rs2 imm s
  | .bge rs1 rs2 imm => Sys2Proof.Machine.execBge rs1 rs2 imm s
  | .bltu rs1 rs2 imm => Sys2Proof.Machine.execBltu rs1 rs2 imm s
  | .bgeu rs1 rs2 imm => Sys2Proof.Machine.execBgeu rs1 rs2 imm s
  | .jal rd imm => Sys2Proof.Machine.execJal rd imm s
  | .jalr rd rs1 imm => Sys2Proof.Machine.execJalr rd rs1 imm s
  | .fence pred succ ign1 ign2 ign3 => Sys2Proof.Machine.execFence pred succ ign1 ign2 ign3 s
  | .fenceI ign1 ign2 ign3 => Sys2Proof.Machine.execFenceI ign1 ign2 ign3 s
  | .scall => Sys2Proof.Machine.execScall s
  | .sbreak => Sys2Proof.Machine.execSbreak s
  | .rdcycle rd => Sys2Proof.Machine.execRdcycle rd s
  | .rdcycleh rd => Sys2Proof.Machine.execRdcycleh rd s
  | .rdtime rd => Sys2Proof.Machine.execRdtime rd s
  | .rdtimeh rd => Sys2Proof.Machine.execRdtimeh rd s
  | .rdinstret rd => Sys2Proof.Machine.execRdinstret rd s
  | .rdinstreth rd => Sys2Proof.Machine.execRdinstreth rd s
  | .csrrw rd csr rs1 => Sys2Proof.Machine.execCsrrw rd csr rs1 s
  | .csrrs rd csr rs1 => Sys2Proof.Machine.execCsrrs rd csr rs1 s
  | .csrrc rd csr rs1 => Sys2Proof.Machine.execCsrrc rd csr rs1 s
  | .csrrwi rd csr zimm => Sys2Proof.Machine.execCsrrwi rd csr zimm s
  | .csrrsi rd csr zimm => Sys2Proof.Machine.execCsrrsi rd csr zimm s
  | .csrrci rd csr zimm => Sys2Proof.Machine.execCsrrci rd csr zimm s
  | .ecall => Sys2Proof.Machine.execEcall s
  | .ebreak => Sys2Proof.Machine.execEbreak s
  | .eret => Sys2Proof.Machine.execEret s
  | .mrts => Sys2Proof.Machine.execMrts s
  | .mrth => Sys2Proof.Machine.execMrth s
  | .hrts => Sys2Proof.Machine.execHrts s
  | .wfi => Sys2Proof.Machine.execWfi s
  | .sfenceVm rs1 => Sys2Proof.Machine.execSfenceVm rs1 s
  | .cLw rd rs1 uimm => Sys2Proof.Machine.execCLw rd rs1 uimm s
  | .cLwsp rd uimm => Sys2Proof.Machine.execCLwsp rd uimm s
  | .cLd rd rs1 uimm => Sys2Proof.Machine.execCLd rd rs1 uimm s
  | .cLdsp rd uimm => Sys2Proof.Machine.execCLdsp rd uimm s
  | .cSw rs1 rs2 uimm => Sys2Proof.Machine.execCSw rs1 rs2 uimm s
  | .cSwsp rs2 uimm => Sys2Proof.Machine.execCSwsp rs2 uimm s
  | .cSd rs1 rs2 uimm => Sys2Proof.Machine.execCSd rs1 rs2 uimm s
  | .cSdsp rs2 uimm => Sys2Proof.Machine.execCSdsp rs2 uimm s
  | .cAdd rd rs2 => Sys2Proof.Machine.execCAdd rd rs2 s
  | .cAddw rd rs2 => Sys2Proof.Machine.execCAddw rd rs2 s
  | .cAddi rd imm => Sys2Proof.Machine.execCAddi rd imm s
  | .cAddiw rd imm => Sys2Proof.Machine.execCAddiw rd imm s
  | .cAddi16sp imm => Sys2Proof.Machine.execCAddi16sp imm s
  | .cAddi4spn rd uimm => Sys2Proof.Machine.execCAddi4spn rd uimm s
  | .cLi rd imm => Sys2Proof.Machine.execCLi rd imm s
  | .cLui rd imm => Sys2Proof.Machine.execCLui rd imm s
  | .cMv rd rs2 => Sys2Proof.Machine.execCMv rd rs2 s
  | .cSub rd rs2 => Sys2Proof.Machine.execCSub rd rs2 s
  | .cSlli rd shamt => Sys2Proof.Machine.execCSlli rd shamt s
  | .cBeqz rs1 imm => Sys2Proof.Machine.execCBeqz rs1 imm s
  | .cBnez rs1 imm => Sys2Proof.Machine.execCBnez rs1 imm s
  | .cJ imm => Sys2Proof.Machine.execCJ imm s
  | .cJr rs1 => Sys2Proof.Machine.execCJr rs1 s
  | .cJal imm => Sys2Proof.Machine.execCJal imm s
  | .cJalr rs1 => Sys2Proof.Machine.execCJalr rs1 s
  | .cEbreak => Sys2Proof.Machine.execCEbreak s
  | .cNop => Sys2Proof.Machine.execCNop s
  | .cSrli rd shamt => Sys2Proof.Machine.execCSrli rd shamt s
  | .cSrai rd shamt => Sys2Proof.Machine.execCSrai rd shamt s
  | .cAndi rd imm => Sys2Proof.Machine.execCAndi rd imm s
  | .cXor rd rs2 => Sys2Proof.Machine.execCXor rd rs2 s
  | .cOr rd rs2 => Sys2Proof.Machine.execCOr rd rs2 s
  | .cAnd rd rs2 => Sys2Proof.Machine.execCAnd rd rs2 s
  | .cSubw rd rs2 => Sys2Proof.Machine.execCSubw rd rs2 s
  | .cFlw rd rs1 uimm => Sys2Proof.Machine.execCFlw rd rs1 uimm s
  | .cFlwsp rd uimm => Sys2Proof.Machine.execCFlwsp rd uimm s
  | .cFsw rs1 rs2 uimm => Sys2Proof.Machine.execCFsw rs1 rs2 uimm s
  | .cFswsp rs2 uimm => Sys2Proof.Machine.execCFswsp rs2 uimm s
  | .cFld rd rs1 uimm => Sys2Proof.Machine.execCFld rd rs1 uimm s
  | .cFldsp rd uimm => Sys2Proof.Machine.execCFldsp rd uimm s
  | .cFsd rs1 rs2 uimm => Sys2Proof.Machine.execCFsd rs1 rs2 uimm s
  | .cFsdsp rs2 uimm => Sys2Proof.Machine.execCFsdsp rs2 uimm s
  | .mul rd rs1 rs2 => Sys2Proof.Machine.execMul rd rs1 rs2 s
  | .mulh rd rs1 rs2 => Sys2Proof.Machine.execMulh rd rs1 rs2 s
  | .mulhsu rd rs1 rs2 => Sys2Proof.Machine.execMulhsu rd rs1 rs2 s
  | .mulhu rd rs1 rs2 => Sys2Proof.Machine.execMulhu rd rs1 rs2 s
  | .div rd rs1 rs2 => Sys2Proof.Machine.execDiv rd rs1 rs2 s
  | .divu rd rs1 rs2 => Sys2Proof.Machine.execDivu rd rs1 rs2 s
  | .rem rd rs1 rs2 => Sys2Proof.Machine.execRem rd rs1 rs2 s
  | .remu rd rs1 rs2 => Sys2Proof.Machine.execRemu rd rs1 rs2 s
  | .mulw rd rs1 rs2 => Sys2Proof.Machine.execMulw rd rs1 rs2 s
  | .divw rd rs1 rs2 => Sys2Proof.Machine.execDivw rd rs1 rs2 s
  | .divuw rd rs1 rs2 => Sys2Proof.Machine.execDivuw rd rs1 rs2 s
  | .remw rd rs1 rs2 => Sys2Proof.Machine.execRemw rd rs1 rs2 s
  | .remuw rd rs1 rs2 => Sys2Proof.Machine.execRemuw rd rs1 rs2 s
  | .lrW rd rs1 aq rl => Sys2Proof.Machine.execLrW rd rs1 aq rl s
  | .scW rd rs1 rs2 aq rl => Sys2Proof.Machine.execScW rd rs1 rs2 aq rl s
  | .amoswapW rd rs1 rs2 aq rl => Sys2Proof.Machine.execAmoswapW rd rs1 rs2 aq rl s
  | .amoaddW rd rs1 rs2 aq rl => Sys2Proof.Machine.execAmoaddW rd rs1 rs2 aq rl s
  | .amoxorW rd rs1 rs2 aq rl => Sys2Proof.Machine.execAmoxorW rd rs1 rs2 aq rl s
  | .amoandW rd rs1 rs2 aq rl => Sys2Proof.Machine.execAmoandW rd rs1 rs2 aq rl s
  | .amoorW rd rs1 rs2 aq rl => Sys2Proof.Machine.execAmoorW rd rs1 rs2 aq rl s
  | .amominW rd rs1 rs2 aq rl => Sys2Proof.Machine.execAmominW rd rs1 rs2 aq rl s
  | .amomaxW rd rs1 rs2 aq rl => Sys2Proof.Machine.execAmomaxW rd rs1 rs2 aq rl s
  | .amominuW rd rs1 rs2 aq rl => Sys2Proof.Machine.execAmominuW rd rs1 rs2 aq rl s
  | .amomaxuW rd rs1 rs2 aq rl => Sys2Proof.Machine.execAmomaxuW rd rs1 rs2 aq rl s
  | .lrD rd rs1 aq rl => Sys2Proof.Machine.execLrD rd rs1 aq rl s
  | .scD rd rs1 rs2 aq rl => Sys2Proof.Machine.execScD rd rs1 rs2 aq rl s
  | .amoswapD rd rs1 rs2 aq rl => Sys2Proof.Machine.execAmoswapD rd rs1 rs2 aq rl s
  | .amoaddD rd rs1 rs2 aq rl => Sys2Proof.Machine.execAmoaddD rd rs1 rs2 aq rl s
  | .amoxorD rd rs1 rs2 aq rl => Sys2Proof.Machine.execAmoxorD rd rs1 rs2 aq rl s
  | .amoandD rd rs1 rs2 aq rl => Sys2Proof.Machine.execAmoandD rd rs1 rs2 aq rl s
  | .amoorD rd rs1 rs2 aq rl => Sys2Proof.Machine.execAmoorD rd rs1 rs2 aq rl s
  | .amominD rd rs1 rs2 aq rl => Sys2Proof.Machine.execAmominD rd rs1 rs2 aq rl s
  | .amomaxD rd rs1 rs2 aq rl => Sys2Proof.Machine.execAmomaxD rd rs1 rs2 aq rl s
  | .amominuD rd rs1 rs2 aq rl => Sys2Proof.Machine.execAmominuD rd rs1 rs2 aq rl s
  | .amomaxuD rd rs1 rs2 aq rl => Sys2Proof.Machine.execAmomaxuD rd rs1 rs2 aq rl s
  | .fmvSX rd rs1 => Sys2Proof.Machine.execFmvSX rd rs1 s
  | .fmvXS rd rs1 => Sys2Proof.Machine.execFmvXS rd rs1 s
  | .fmvDX rd rs1 => Sys2Proof.Machine.execFmvDX rd rs1 s
  | .fmvXD rd rs1 => Sys2Proof.Machine.execFmvXD rd rs1 s
  | .flw rd rs1 imm => Sys2Proof.Machine.execFlw rd rs1 imm s
  | .fsw rs1 rs2 imm => Sys2Proof.Machine.execFsw rs1 rs2 imm s
  | .fld rd rs1 imm => Sys2Proof.Machine.execFld rd rs1 imm s
  | .fsd rs1 rs2 imm => Sys2Proof.Machine.execFsd rs1 rs2 imm s
  | .flq rd rs1 imm => Sys2Proof.Machine.execFlq rd rs1 imm s
  | .fsq rs1 rs2 imm => Sys2Proof.Machine.execFsq rs1 rs2 imm s
  | .fcvtSW rd rs1 rm => Sys2Proof.Machine.execFcvtSW rd rs1 rm s
  | .fcvtDW rd rs1 rm => Sys2Proof.Machine.execFcvtDW rd rs1 rm s
  | .fcvtQW rd rs1 rm => Sys2Proof.Machine.execFcvtQW rd rs1 rm s
  | .fcvtSWU rd rs1 rm => Sys2Proof.Machine.execFcvtSWU rd rs1 rm s
  | .fcvtDWU rd rs1 rm => Sys2Proof.Machine.execFcvtDWU rd rs1 rm s
  | .fcvtQWU rd rs1 rm => Sys2Proof.Machine.execFcvtQWU rd rs1 rm s
  | .fcvtSL rd rs1 rm => Sys2Proof.Machine.execFcvtSL rd rs1 rm s
  | .fcvtDL rd rs1 rm => Sys2Proof.Machine.execFcvtDL rd rs1 rm s
  | .fcvtQL rd rs1 rm => Sys2Proof.Machine.execFcvtQL rd rs1 rm s
  | .fcvtSLU rd rs1 rm => Sys2Proof.Machine.execFcvtSLU rd rs1 rm s
  | .fcvtDLU rd rs1 rm => Sys2Proof.Machine.execFcvtDLU rd rs1 rm s
  | .fcvtQLU rd rs1 rm => Sys2Proof.Machine.execFcvtQLU rd rs1 rm s
  | .fcvtWS rd rs1 rm => Sys2Proof.Machine.execFcvtWS rd rs1 rm s
  | .fcvtWD rd rs1 rm => Sys2Proof.Machine.execFcvtWD rd rs1 rm s
  | .fcvtWQ rd rs1 rm => Sys2Proof.Machine.execFcvtWQ rd rs1 rm s
  | .fcvtWUS rd rs1 rm => Sys2Proof.Machine.execFcvtWUS rd rs1 rm s
  | .fcvtWUD rd rs1 rm => Sys2Proof.Machine.execFcvtWUD rd rs1 rm s
  | .fcvtWUQ rd rs1 rm => Sys2Proof.Machine.execFcvtWUQ rd rs1 rm s
  | .fcvtLS rd rs1 rm => Sys2Proof.Machine.execFcvtLS rd rs1 rm s
  | .fcvtLD rd rs1 rm => Sys2Proof.Machine.execFcvtLD rd rs1 rm s
  | .fcvtLQ rd rs1 rm => Sys2Proof.Machine.execFcvtLQ rd rs1 rm s
  | .fcvtLUS rd rs1 rm => Sys2Proof.Machine.execFcvtLUS rd rs1 rm s
  | .fcvtLUD rd rs1 rm => Sys2Proof.Machine.execFcvtLUD rd rs1 rm s
  | .fcvtLUQ rd rs1 rm => Sys2Proof.Machine.execFcvtLUQ rd rs1 rm s
  | .fcvtSD rd rs1 rm => Sys2Proof.Machine.execFcvtSD rd rs1 rm s
  | .fcvtDS rd rs1 rm => Sys2Proof.Machine.execFcvtDS rd rs1 rm s
  | .fcvtSQ rd rs1 rm => Sys2Proof.Machine.execFcvtSQ rd rs1 rm s
  | .fcvtQS rd rs1 rm => Sys2Proof.Machine.execFcvtQS rd rs1 rm s
  | .fcvtDQ rd rs1 rm => Sys2Proof.Machine.execFcvtDQ rd rs1 rm s
  | .fcvtQD rd rs1 rm => Sys2Proof.Machine.execFcvtQD rd rs1 rm s
  | .faddS rd rs1 rs2 rm => Sys2Proof.Machine.execFaddS rd rs1 rs2 rm s
  | .faddD rd rs1 rs2 rm => Sys2Proof.Machine.execFaddD rd rs1 rs2 rm s
  | .faddQ rd rs1 rs2 rm => Sys2Proof.Machine.execFaddQ rd rs1 rs2 rm s
  | .fsubS rd rs1 rs2 rm => Sys2Proof.Machine.execFsubS rd rs1 rs2 rm s
  | .fsubD rd rs1 rs2 rm => Sys2Proof.Machine.execFsubD rd rs1 rs2 rm s
  | .fsubQ rd rs1 rs2 rm => Sys2Proof.Machine.execFsubQ rd rs1 rs2 rm s
  | .fmulS rd rs1 rs2 rm => Sys2Proof.Machine.execFmulS rd rs1 rs2 rm s
  | .fmulD rd rs1 rs2 rm => Sys2Proof.Machine.execFmulD rd rs1 rs2 rm s
  | .fmulQ rd rs1 rs2 rm => Sys2Proof.Machine.execFmulQ rd rs1 rs2 rm s
  | .fdivS rd rs1 rs2 rm => Sys2Proof.Machine.execFdivS rd rs1 rs2 rm s
  | .fdivD rd rs1 rs2 rm => Sys2Proof.Machine.execFdivD rd rs1 rs2 rm s
  | .fdivQ rd rs1 rs2 rm => Sys2Proof.Machine.execFdivQ rd rs1 rs2 rm s
  | .fsqrtS rd rs1 rm => Sys2Proof.Machine.execFsqrtS rd rs1 rm s
  | .fsqrtD rd rs1 rm => Sys2Proof.Machine.execFsqrtD rd rs1 rm s
  | .fsqrtQ rd rs1 rm => Sys2Proof.Machine.execFsqrtQ rd rs1 rm s
  | .fmaddS rd rs1 rs2 rs3 rm => Sys2Proof.Machine.execFmaddS rd rs1 rs2 rs3 rm s
  | .fmaddD rd rs1 rs2 rs3 rm => Sys2Proof.Machine.execFmaddD rd rs1 rs2 rs3 rm s
  | .fmaddQ rd rs1 rs2 rs3 rm => Sys2Proof.Machine.execFmaddQ rd rs1 rs2 rs3 rm s
  | .fmsubS rd rs1 rs2 rs3 rm => Sys2Proof.Machine.execFmsubS rd rs1 rs2 rs3 rm s
  | .fmsubD rd rs1 rs2 rs3 rm => Sys2Proof.Machine.execFmsubD rd rs1 rs2 rs3 rm s
  | .fmsubQ rd rs1 rs2 rs3 rm => Sys2Proof.Machine.execFmsubQ rd rs1 rs2 rs3 rm s
  | .fnmsubS rd rs1 rs2 rs3 rm => Sys2Proof.Machine.execFnmsubS rd rs1 rs2 rs3 rm s
  | .fnmsubD rd rs1 rs2 rs3 rm => Sys2Proof.Machine.execFnmsubD rd rs1 rs2 rs3 rm s
  | .fnmsubQ rd rs1 rs2 rs3 rm => Sys2Proof.Machine.execFnmsubQ rd rs1 rs2 rs3 rm s
  | .fnmaddS rd rs1 rs2 rs3 rm => Sys2Proof.Machine.execFnmaddS rd rs1 rs2 rs3 rm s
  | .fnmaddD rd rs1 rs2 rs3 rm => Sys2Proof.Machine.execFnmaddD rd rs1 rs2 rs3 rm s
  | .fnmaddQ rd rs1 rs2 rs3 rm => Sys2Proof.Machine.execFnmaddQ rd rs1 rs2 rs3 rm s
  | .fsgnjS rd rs1 rs2 => Sys2Proof.Machine.execFsgnjS rd rs1 rs2 s
  | .fsgnjD rd rs1 rs2 => Sys2Proof.Machine.execFsgnjD rd rs1 rs2 s
  | .fsgnjQ rd rs1 rs2 => Sys2Proof.Machine.execFsgnjQ rd rs1 rs2 s
  | .fsgnjnS rd rs1 rs2 => Sys2Proof.Machine.execFsgnjnS rd rs1 rs2 s
  | .fsgnjnD rd rs1 rs2 => Sys2Proof.Machine.execFsgnjnD rd rs1 rs2 s
  | .fsgnjnQ rd rs1 rs2 => Sys2Proof.Machine.execFsgnjnQ rd rs1 rs2 s
  | .fsgnjxS rd rs1 rs2 => Sys2Proof.Machine.execFsgnjxS rd rs1 rs2 s
  | .fsgnjxD rd rs1 rs2 => Sys2Proof.Machine.execFsgnjxD rd rs1 rs2 s
  | .fsgnjxQ rd rs1 rs2 => Sys2Proof.Machine.execFsgnjxQ rd rs1 rs2 s
  | .fminS rd rs1 rs2 => Sys2Proof.Machine.execFminS rd rs1 rs2 s
  | .fminD rd rs1 rs2 => Sys2Proof.Machine.execFminD rd rs1 rs2 s
  | .fminQ rd rs1 rs2 => Sys2Proof.Machine.execFminQ rd rs1 rs2 s
  | .fmaxS rd rs1 rs2 => Sys2Proof.Machine.execFmaxS rd rs1 rs2 s
  | .fmaxD rd rs1 rs2 => Sys2Proof.Machine.execFmaxD rd rs1 rs2 s
  | .fmaxQ rd rs1 rs2 => Sys2Proof.Machine.execFmaxQ rd rs1 rs2 s
  | .feqS rd rs1 rs2 => Sys2Proof.Machine.execFeqS rd rs1 rs2 s
  | .feqD rd rs1 rs2 => Sys2Proof.Machine.execFeqD rd rs1 rs2 s
  | .feqQ rd rs1 rs2 => Sys2Proof.Machine.execFeqQ rd rs1 rs2 s
  | .fltS rd rs1 rs2 => Sys2Proof.Machine.execFltS rd rs1 rs2 s
  | .fltD rd rs1 rs2 => Sys2Proof.Machine.execFltD rd rs1 rs2 s
  | .fltQ rd rs1 rs2 => Sys2Proof.Machine.execFltQ rd rs1 rs2 s
  | .fleS rd rs1 rs2 => Sys2Proof.Machine.execFleS rd rs1 rs2 s
  | .fleD rd rs1 rs2 => Sys2Proof.Machine.execFleD rd rs1 rs2 s
  | .fleQ rd rs1 rs2 => Sys2Proof.Machine.execFleQ rd rs1 rs2 s
  | .fclassS rd rs1 => Sys2Proof.Machine.execFclassS rd rs1 s
  | .fclassD rd rs1 => Sys2Proof.Machine.execFclassD rd rs1 s
  | .fclassQ rd rs1 => Sys2Proof.Machine.execFclassQ rd rs1 s
  | .frcsr rd => Sys2Proof.Machine.execFrcsr rd s
  | .frrm rd => Sys2Proof.Machine.execFrrm rd s
  | .frflags rd => Sys2Proof.Machine.execFrflags rd s
  | .fscsr rd rs1 => Sys2Proof.Machine.execFscsr rd rs1 s
  | .fsrm rd rs1 => Sys2Proof.Machine.execFsrm rd rs1 s
  | .fsflags rd rs1 => Sys2Proof.Machine.execFsflags rd rs1 s
  | .fsrmi rd zimm => Sys2Proof.Machine.execFsrmi rd zimm s
  | .fsflagsi rd zimm => Sys2Proof.Machine.execFsflagsi rd zimm s

end Sys2Proof.Machine
end

