-- ==== Sys2Proof/Machine/Fetch.lean ====
section
/-! DEFINITION. `Fetch(pc)` (R77): parcel by parcel, an absent or non-executable byte before a stale
one, no parcel beyond the second. -/

namespace Sys2Proof.Machine

/-- The parcel `off` bytes after the pc (R77 step 2). -/
def State.fetchParcel (s : State) (off : Nat) (k : BitVec 16 → Res) : Res :=
  let a0 := byteAddr s.cfg.xlen s.pc off
  let a1 := byteAddr s.cfg.xlen s.pc (off + 1)
  if s.allows .execute a0 && s.allows .execute a1 then
    if s.stale.contains a0 || s.stale.contains a1 then .refused .staleFetch
    else k (s.readByte a1 ++ s.readByte a0)
  else raise (.instructionAccessFault s.pc)

/-- The fetched instruction, given to `k` (R77). -/
def State.fetch (s : State) (k : Encoded → Res) : Res :=
  s.fetchParcel 0 fun p0 =>
    if p0.extractLsb' 0 2 = 0b11#2 then s.fetchParcel 2 fun p1 => k (.word (p1 ++ p0))
    else k (.half p0)

/-- Fetching, decoding and running one instruction, given how an instruction runs (R18, R100): a word
that decodes to nothing raises `IllegalInstruction(word)` (R504 cause 1). -/
def State.stepWith (s : State) (run : Instr → State → Res) : Res :=
  s.fetch fun e =>
    match decode s.cfg e with
    | .ok i => run i s
    | .error err => raise (.illegalInstruction err.word)

/-- Bytes placed in memory from the pc up, as a launch image has them: no longer stale (R541, R544). -/
def State.placeCode (s : State) : Nat → List Byte → State
  | _, [] => s
  | off, b :: rest =>
    let a := byteAddr s.cfg.xlen s.pc off
    { s with mem := s.mem.write a b, stale := s.stale.filter (· != a) }.placeCode (off + 1) rest

end Sys2Proof.Machine
end

