-- ==== Sys2Proof/Machine/Step.lean ====
section
/-! DEFINITION. One step of the machine (R18), and how an instruction is placed where the next step
fetches it. -/

namespace Sys2Proof.Machine

/-- One step: fetch, decode, execute (R18, R100, R506). -/
def step (s : State) : Host.Outcome State Fault Refusal := s.stepWith exec

/-- `s` with the instruction of `nbits` bits `w` as launch memory at the pc (log entry 4). Where the
word is no instruction under the configuration of `s`, the width is the one that has it. -/
def State.withFetchWord (s : State) (nbits w : Nat) : State :=
  let bytes := tableBytes nbits w
  let x :=
    match decodeBytes s.cfg bytes with
    | some (.ok _, _) => s.cfg.xlen
    | _ => (configFor bytes).xlen
  { s with cfg := { s.cfg with xlen := x } }.placeCode 0 bytes

end Sys2Proof.Machine
end

