-- ==== Sys2Proof/Machine/Launch.lean ====
section
/-! DEFINITION. Launch (R9, R515, R540, R541): which parameters a machine may have, and the state a run
starts from. `State.reset` is the launch of `Launch.standard`. -/

namespace Sys2Proof.Machine

/-- A mnemonic of 47_rv128_and_unencoded.md, in the families of its rules (R600 to R637): none has an
encoding. AMOXOR.Q is among them by the model's choice (DESIGN CHOICE, log entry 17): R67 counts `AMO*.Q`
among the refused forms, and R625 says only that AMOXOR.Q would complete the set. -/
def unencodedMnemonics : List String :=
  ["LQ", "LDU", "SQ", "SLLD", "SLLID", "SRLD", "SRLID", "SRAD", "SRAID", "ADDD", "ADDID"] ++
  ["C.LQ", "C.LQSP", "C.SQ", "C.SQSP", "MULD", "DIVD", "REMD", "REMUD"] ++
  ["LR.Q", "SC.Q", "AMOSWAP.Q", "AMOADD.Q", "AMOXOR.Q", "AMOAND.Q", "AMOOR.Q", "AMOMIN.Q"] ++
  ["AMOMAX.Q", "AMOMINU.Q", "AMOMAXU.Q", "FMV.Q.X", "FMV.X.Q", "FCVT.S.T", "FCVT.D.T", "FCVT.Q.T"] ++
  ["FCVT.S.TU", "FCVT.D.TU", "FCVT.Q.TU", "FCVT.T.S", "FCVT.T.D", "FCVT.T.Q"] ++
  ["FCVT.TU.S", "FCVT.TU.D", "FCVT.TU.Q", "FMV.H.X", "FMV.X.H"] ++
  ["FCVT.H.W", "FCVT.H.WU", "FCVT.H.L", "FCVT.H.LU", "FCVT.W.H", "FCVT.WU.H", "FCVT.L.H", "FCVT.LU.H"] ++
  ["FCVT.H.T", "FCVT.H.TU", "FCVT.T.H", "FCVT.TU.H"]

/-- The refusal of a program in assembly that names such a mnemonic (R515, R600). -/
def assemblyRefusal (mnemonic : String) : Option Refusal :=
  if unencodedMnemonics.contains mnemonic then some (.notEncoded mnemonic) else none

/-- The letters on which "work continues" (R3), Q apart: a launch that asks for one is refused (R8, R515;
93_implementation_defined.md 1a). -/
inductive FutureLetter where
  | L | B | T | P | J | V | N
deriving DecidableEq, Repr

/-- The letter as R3 writes it. -/
def FutureLetter.name : FutureLetter → String
  | .L => "L"
  | .B => "B"
  | .T => "T"
  | .P => "P"
  | .J => "J"
  | .V => "V"
  | .N => "N"

/-- What the host supplies at launch (R541), with the parameters of R9 as it names them. -/
structure Launch where
  /-- `XLEN` in bits. -/
  xlenBits : Nat
  /-- `NHARTS`. -/
  nHarts : Nat
  /-- Whether the reduced base `E` is asked for (R8). -/
  baseE : Bool
  /-- The letters of R3's list that are asked for. -/
  future : List FutureLetter
  /-- The other parameters; its `xlen` is overwritten. -/
  cfg : Config
  /-- The launch values of `x1` to `x31`; entry 0 is ignored (R21). -/
  x : Vector Word 32
  /-- The launch values of `f0` to `f31`. -/
  f : Vector FWord 32
  /-- The launch value of `fcsr`. -/
  fcsr : BitVec 8
  /-- The launch value of `instret`. -/
  instret : BitVec 64
  /-- The launch memory, the program image among it, one byte after another (R541, D26). -/
  image : List Host.Cell
deriving DecidableEq, Repr

/-- Whether a part of `MemMap` lies in the address space (R60, R70). -/
def regionFits (x : Xlen) (r : Region) : Bool := decide (r.base + r.size ≤ 2 ^ x.bits)

/-- Whether parameters are admitted by R9: `EXT` closed (R5), `MemMap` in the address space,
`RESET_PC` of `XLEN` bits and aligned (R540), `RESGRAN` a power of two. -/
def configAdmitted (c : Config) : Bool :=
  c.ext.closed && c.memMap.all (regionFits c.xlen) && (xtrunc c.xlen c.resetPc == c.resetPc) &&
    (c.resetPc.toNat % c.ialignBytes == 0) && (2 ^ Nat.log2 c.resGran == c.resGran)

/-- A launch image placed byte by byte, at addresses of `XLEN` bits. -/
def imageMemory (x : Xlen) : List Host.Cell → Memory
  | [] => []
  | (a, b) :: rest => (imageMemory x rest).write (a % 2 ^ x.bits) b

/-- The state a run starts from (R46, R541). -/
def Launch.state (l : Launch) (c : Config) : State where
  cfg := c
  x := (l.x.map (xtrunc c.xlen)).set 0 0#64
  pc := c.resetPc
  f := l.f.map (ftrunc c.flen)
  fcsr := l.fcsr
  instret := l.instret
  mem := imageMemory c.xlen l.image
  reservation := none
  stale := []
  extraCsrs := []
  cycleLast := 0#64
  timeLast := 0#64
  draws := 0

/-- `XLEN` from its number of bits; 128 is refused (R515, R600). -/
def xlenOf (bits : Nat) : Option Xlen :=
  if bits = 32 then some .rv32 else if bits = 64 then some .rv64 else none

/-- A launch (R515, R541): the state the run starts from, or the refusal of a configuration outside R9,
by the first parameter that is (log entry 17). -/
def Launch.start (l : Launch) : Res :=
  match xlenOf l.xlenBits with
  | none => .refused (.unsupported "XLEN")
  | some x =>
    if l.nHarts ≠ 1 then .refused (.unsupported "NHARTS")
    else if l.baseE then .refused (.unsupported "E")
    else
      match l.future with
      | letter :: _ => .refused (.unsupported letter.name)
      | [] =>
        let c := { l.cfg with xlen := x }
        if configAdmitted c then .next (l.state c) else .refused (.unsupported "parameters")

/-- The launch of `State.reset`: the standard parameters, every value zero, no image (log entries 2
and 3). -/
def Launch.standard : Launch where
  xlenBits := 64
  nHarts := 1
  baseE := false
  future := []
  cfg := Config.standard
  x := Vector.replicate 32 0
  f := Vector.replicate 32 0
  fcsr := 0
  instret := 0
  image := []

end Sys2Proof.Machine
end

