-- ==== Sys2Proof/Safety.lean ====
section
/-! DEFINITION. What counts as a safe run, in the terms claims use: the three ends of a step (R18,
R502, R515), and the invariants that every step keeps. -/

namespace Sys2Proof.Machine

/-- The step goes on. -/
def State.continues (s : State) : Prop := ∃ t, step s = .next t

/-- The run ends in a terminal trap (R502). -/
def State.traps (s : State) : Prop := ∃ e, step s = .fault e

/-- The run ends because the model declines to go on (R515). -/
def State.refuses (s : State) : Prop := ∃ r, step s = .refused r

/-- A run of `n` steps neither traps nor refuses. -/
def State.safeFor : Nat → State → Prop
  | 0, _ => True
  | n + 1, s => ∃ t, step s = .next t ∧ State.safeFor n t

/-- `x0` is zero, every x register has `XLEN` bits and every f register `FLEN` (R20, R21, R40). -/
def State.registersOk (s : State) : Bool :=
  s.x[0] == 0#64 && decide (∀ r : Fin 32, xtrunc s.cfg.xlen s.x[r] = s.x[r]) &&
    decide (∀ r : Fin 32, ftrunc s.cfg.flen s.f[r] = s.f[r])

/-- The pc has `XLEN` bits and is `IALIGN`-aligned (R25, R27). -/
def State.pcOk (s : State) : Bool :=
  xtrunc s.cfg.xlen s.pc == s.pc && s.pc.toNat % s.cfg.ialignBytes == 0

/-- Addresses strictly rising from `lo` on. -/
def risingFrom : Nat → List Nat → Bool
  | _, [] => true
  | lo, a :: rest => decide (lo ≤ a) && risingFrom (a + 1) rest

/-- Memory is in canonical form, the stale set strictly rising, and both hold addresses of `XLEN`
bits only (R42, R44, R60). -/
def State.memoryOk (s : State) : Bool :=
  s.mem.wf && s.mem.all (fun c => decide (c.1 < 2 ^ s.cfg.xlen.bits)) && risingFrom 0 s.stale &&
    s.stale.all (fun a => decide (a < 2 ^ s.cfg.xlen.bits))

/-- A held reservation is of 4 or 8 bytes, aligned, at an address of `XLEN` bits (R43, R342). -/
def State.reservationOk (s : State) : Bool :=
  match s.reservation with
  | none => true
  | some r =>
    (r.size == 4 || r.size == 8) && r.addr.toNat % r.size == 0 && xtrunc s.cfg.xlen r.addr == r.addr

/-- The invariant of the machine: all of the above, and parameters that R9 admits. -/
def State.ok (s : State) : Bool :=
  configAdmitted s.cfg && s.registersOk && s.pcOk && s.memoryOk && s.reservationOk

/-! ### What an instruction changes and leaves alone: the words statements use -/

/-- `unsigned(x[r])` (R12). -/
def State.ux (s : State) (r : RegIdx) : Nat := (s.readX r).toNat

/-- `signed(x[r])` (R12). -/
def State.sx (s : State) (r : RegIdx) : Int := xsigned s.cfg.xlen (s.readX r)

/-- The low 32 bits of `x[r]`, signed (R141). -/
def State.sw (s : State) (r : RegIdx) : Int := ((s.readX r).setWidth 32).toInt

/-- 2^`XLEN`. -/
def State.modulus (s : State) : Nat := 2 ^ s.cfg.xlen.bits

/-- The address is among the `n` bytes accessed at `a` (R66). -/
def storedAt (x : Xlen) (a : Word) (n k : Nat) : Prop := ∃ i, i < n ∧ byteAddr x a i = k

/-- The instruction, `n` bytes long, completed and did not transfer control (R26, R28, R36). -/
def retiredBy (n : Nat) (s t : State) : Prop :=
  t.pc.toNat = (s.pc.toNat + n) % 2 ^ s.cfg.xlen.bits ∧ t.instret = s.instret + 1#64

/-- The instruction completed and the next one is at `target`. -/
def retiredAt (target : Word) (s t : State) : Prop := t.pc = target ∧ t.instret = s.instret + 1#64

/-- No x register changed. -/
def sameX (s t : State) : Prop := ∀ r, t.readX r = s.readX r

/-- No x register but `rd` changed. -/
def sameXBut (rd : RegIdx) (s t : State) : Prop := ∀ r, r ≠ rd → t.readX r = s.readX r

/-- No f register changed. -/
def sameF (s t : State) : Prop := ∀ r, t.readF r = s.readF r

/-- No f register but `rd` changed. -/
def sameFBut (rd : RegIdx) (s t : State) : Prop := ∀ r, r ≠ rd → t.readF r = s.readF r

/-- Every byte of memory reads as before, and the stale set is as before. -/
def sameMemory (s t : State) : Prop := (∀ a, t.readByte a = s.readByte a) ∧ t.stale = s.stale

/-- The parameters, the reservation, the CSRs of `CsrExtra` and the counters' last values are as before. -/
def sameSystem (s t : State) : Prop :=
  t.cfg = s.cfg ∧ t.reservation = s.reservation ∧ t.extraCsrs = s.extraCsrs ∧
    t.cycleLast = s.cycleLast ∧ t.timeLast = s.timeLast

/-- Only `x[rd]`, the pc and `instret` may have changed; `x[rd]` reads `v`, but `x0` reads zero (R21). -/
def wroteX (n : Nat) (rd : RegIdx) (v : Word) (s t : State) : Prop :=
  retiredBy n s t ∧ t.readX rd = (if rd = 0#5 then 0#64 else v) ∧ sameXBut rd s t ∧ sameF s t ∧
    t.fcsr = s.fcsr ∧ sameMemory s t ∧ sameSystem s t

/-- `exec i` completes with a result in `x[rd]` that `P` holds of, and changes nothing else. -/
def completesX (i : Instr) (n : Nat) (s : State) (rd : RegIdx) (P : Word → Prop) : Prop :=
  ∃ t v, exec i s = .next t ∧ wroteX n rd v s t ∧ P v

/-- `exec i` completes and changes the pc and `instret` only; the next instruction is at `target`. -/
def completesAt (i : Instr) (s : State) (target : Word) : Prop :=
  ∃ t, exec i s = .next t ∧ retiredAt target s t ∧ sameX s t ∧ sameF s t ∧ t.fcsr = s.fcsr ∧
    sameMemory s t ∧ sameSystem s t

/-- Only `x[rd]`, the pc and `instret` may have changed; `x[rd]` reads `v`, but `x0` reads zero (R21),
and the next instruction is at `target` (R143). -/
def linkedX (target : Word) (rd : RegIdx) (v : Word) (s t : State) : Prop :=
  retiredAt target s t ∧ t.readX rd = (if rd = 0#5 then 0#64 else v) ∧ sameXBut rd s t ∧ sameF s t ∧
    t.fcsr = s.fcsr ∧ sameMemory s t ∧ sameSystem s t

/-- Only `x[rd]`, `fcsr`, the pc and `instret` may have changed: the effect of a CSR instruction on
`fflags`, `frm` or `fcsr` (R220). -/
def wroteCsr (rd : RegIdx) (v : Word) (fcsr : BitVec 8) (s t : State) : Prop :=
  retiredBy 4 s t ∧ t.readX rd = (if rd = 0#5 then 0#64 else v) ∧ sameXBut rd s t ∧ sameF s t ∧
    t.fcsr = fcsr ∧ sameMemory s t ∧ sameSystem s t

/-- What a read of `fflags`, `frm` or `fcsr` gives (R37 to R39). -/
def fpCsrValue (s : State) : Csr → Word
  | .fflags => s.fflags.setWidth 64
  | .frm => s.frm.setWidth 64
  | _ => s.fcsr.setWidth 64

/-- `fcsr` after a write of `v` to `fflags`, `frm` or `fcsr` (R37 to R39). -/
def fpCsrAfter (s : State) (v : Word) : Csr → BitVec 8
  | .fflags => s.frm ++ v.extractLsb' 0 5
  | .frm => v.extractLsb' 0 3 ++ s.fflags
  | _ => v.extractLsb' 0 8

/-- `f[rd]` holds the `w`-bit value `v` in the form R41 gives it: all ones above it under
`NANBOX = boxed`. -/
def holdsBoxed (m : Fmt) (rd : RegIdx) (v : FWord) (s t : State) : Prop :=
  ftrunc m.width (t.readF rd) = ftrunc m.width v ∧
    (s.cfg.nanBox = .boxed → ∀ k, m.width ≤ k → k < s.cfg.flen → (t.readF rd).getLsbD k = true)

/-- Only `f[rd]`, the flags, the pc and `instret` may have changed: `f[rd]` holds `v` and the flags
`fl` accrued (R39, R421). -/
def wroteF (n : Nat) (m : Fmt) (rd : RegIdx) (v : FWord) (fl : FFlags) (s t : State) : Prop :=
  retiredBy n s t ∧ holdsBoxed m rd v s t ∧ sameFBut rd s t ∧ sameX s t ∧ t.frm = s.frm ∧
    t.fflags = s.fflags ||| fl ∧ sameMemory s t ∧ sameSystem s t

/-- `exec i` completes with the `w`-bit value and the flags `r` in `f[rd]` and `fflags`. -/
def completesF (i : Instr) (n : Nat) (s : State) (m : Fmt) (rd : RegIdx) (r : FWord × FFlags) : Prop :=
  ∃ t, exec i s = .next t ∧ wroteF n m rd r.1 r.2 s t

/-- Only `x[rd]`, the flags, the pc and `instret` may have changed. -/
def wroteXF (rd : RegIdx) (v : Word) (fl : FFlags) (s t : State) : Prop :=
  retiredBy 4 s t ∧ t.readX rd = (if rd = 0#5 then 0#64 else v) ∧ sameXBut rd s t ∧ sameF s t ∧
    t.frm = s.frm ∧ t.fflags = s.fflags ||| fl ∧ sameMemory s t ∧ sameSystem s t

/-- `exec i` completes with a result in `x[rd]` and flags that `P` holds of. -/
def completesXF (i : Instr) (s : State) (rd : RegIdx) (P : Word → FFlags → Prop) : Prop :=
  ∃ t v fl, exec i s = .next t ∧ wroteXF rd v fl s t ∧ P v fl

/-- The `n` bytes of `v` are stored at `a`, little-endian, and are stale; every other byte and every
other stale address is as before (R61, R66). -/
def storedBytes (a : Word) (n v : Nat) (s t : State) : Prop :=
  (∀ i, i < n → t.readByte (byteAddr s.cfg.xlen a i) = BitVec.ofNat 8 (v / 2 ^ (8 * i))) ∧
    (∀ k, ¬ storedAt s.cfg.xlen a n k → t.readByte k = s.readByte k) ∧
    ∀ k, k ∈ t.stale ↔ storedAt s.cfg.xlen a n k ∨ k ∈ s.stale

/-- `exec i` stores the `n` bytes of `v` at `a` and changes the pc and `instret` beside. -/
def completesStore (i : Instr) (len : Nat) (s : State) (a : Word) (n v : Nat) : Prop :=
  ∃ t, exec i s = .next t ∧ retiredBy len s t ∧ storedBytes a n v s t ∧ sameX s t ∧ sameF s t ∧
    t.fcsr = s.fcsr ∧ sameSystem s t

/-- The checks of a load or store of `n` bytes at `a` pass (R64, R66): aligned, or split; every byte
present and permitted. -/
def accessible (s : State) (acc : Access) (a : Word) (n : Nat) : Prop :=
  (a.toNat % n = 0 ∨ s.cfg.misaligned = .split) ∧
    ∀ k, k < n → s.allows acc (byteAddr s.cfg.xlen a k) = true

/-- The checks of an atomic of `n` bytes at `a` pass (R64, R341). -/
def accessibleAtomic (s : State) (accs : List Access) (a : Word) (n : Nat) : Prop :=
  a.toNat % n = 0 ∧ ∀ acc ∈ accs, ∀ k, k < n → s.allows acc (byteAddr s.cfg.xlen a k) = true

/-- The rational number a finite value stands for (R371); zero for the others. -/
def FVal.toRat : FVal → Rat
  | .finite neg mant exp => (if neg then -1 else 1) * (mant : Rat) * (2 : Rat) ^ exp
  | _ => 0

/-- Where a value that is not a NaN lies against the finite ones: an infinity below or above them all. -/
def FVal.side : FVal → Rat
  | .inf neg => if neg then -1 else 1
  | _ => 0

/-- A result that raises no flag and is a zero of a sign. -/
def Fmt.givesZero (m : Fmt) (r : FWord × FFlags) (neg : Prop) : Prop :=
  r.2 = noFlags ∧ ∃ n e, m.unpack r.1 = .finite n 0 e ∧ (n = true ↔ neg)

/-- A result that raises no flag and is an infinity of a sign. -/
def Fmt.givesInfinity (m : Fmt) (r : FWord × FFlags) (neg : Bool) : Prop :=
  r.2 = noFlags ∧ m.unpack r.1 = .inf neg

/-- A result that is finite and stands for the real number `y`, with a sign of its own for zero. -/
def Fmt.standsFor (m : Fmt) (v : FWord) (neg : Prop) (y : Real) : Prop :=
  ∃ n k e, m.unpack v = .finite n k e ∧ (n = true ↔ neg) ∧ ((FVal.finite n k e).toRat : Real) = y

/-- `y` is `x` rounded in a mode to a multiple of `2^lsb` (R38): the nearest, ties to even or away from
zero, or the next one towards zero, down or up. -/
def roundsTo (mode : Rounding) (lsb : Int) (x y : Real) : Prop :=
  let ulp : Real := (2 : Real) ^ lsb
  ∃ n : Int, y = n * ulp ∧ |y - x| < ulp ∧
    (mode = .rne → |y - x| ≤ ulp / 2 ∧ (|y - x| = ulp / 2 → n % 2 = 0)) ∧
    (mode = .rmm → |y - x| ≤ ulp / 2 ∧ (|y - x| = ulp / 2 → |x| < |y|)) ∧
    (mode = .rtz → |y| ≤ |x|) ∧ (mode = .rdn → y ≤ x) ∧ (mode = .rup → x ≤ y)

/-- The largest finite number of a format (R371). -/
def Fmt.largestReal (m : Fmt) (y : Real) : Prop :=
  y = ((2 : Real) ^ (m.fracBits + 1) - 1) * (2 : Real) ^ ((m.bias : Int) - m.fracBits)

/-- `r` is the real number `x`, not zero, rounded once to the format in the mode, with the flags of R421.
`x` lies between `2^top` and `2^(top+1)`; `y` is its rounding to the format's last place there, and `z`
the one it would have were the exponent unbounded. Beyond the largest finite number the result is an
infinity or that number, as the mode directs, with OF and NX. Otherwise it is `y`, with NX where `y` is
not `x`, and UF beside it where `z` is below the smallest normal number: tiny after rounding. -/
def Fmt.rounds (m : Fmt) (mode : Rounding) (x : Real) (r : FWord × FFlags) : Prop :=
  ∃ (top : Int) (y z largest : Real), (2 : Real) ^ top ≤ |x| ∧ |x| < (2 : Real) ^ (top + 1) ∧
    roundsTo mode (max (top - m.fracBits) m.minLsb) x y ∧ roundsTo mode (top - m.fracBits) x z ∧
    m.largestReal largest ∧
    let smallestNormal : Real := (2 : Real) ^ (1 - (m.bias : Int))
    let toInfinity := mode = .rne ∨ mode = .rmm ∨ (mode = .rdn ∧ x < 0) ∨ (mode = .rup ∧ 0 < x)
    (largest < |y| → r.2 = flagOF ||| flagNX ∧
      (toInfinity → ∃ neg, m.unpack r.1 = .inf neg ∧ (neg = true ↔ x < 0)) ∧
      (¬ toInfinity → m.standsFor r.1 (x < 0) (if x < 0 then -largest else largest))) ∧
    (|y| ≤ largest → m.standsFor r.1 (x < 0) y ∧ (y = x → r.2 = noFlags) ∧
      (y ≠ x → |z| < smallestNormal → r.2 = flagUF ||| flagNX) ∧
      (y ≠ x → smallestNormal ≤ |z| → r.2 = flagNX))

/-- Only `x[rd]`, one CSR of `CsrExtra`, the pc and `instret` may have changed: `x[rd]` reads `old`, and
the CSR `new` within its mask and `XLEN` (R220, R32, log entry 9). -/
def wroteExtra (rd : RegIdx) (e : ExtraCsr) (old new : Word) (s t : State) : Prop :=
  retiredBy 4 s t ∧ t.readX rd = (if rd = 0#5 then 0#64 else old) ∧ sameXBut rd s t ∧ sameF s t ∧
    t.fcsr = s.fcsr ∧ sameMemory s t ∧ t.cfg = s.cfg ∧ t.reservation = s.reservation ∧
    t.cycleLast = s.cycleLast ∧ t.timeLast = s.timeLast ∧
    xtrunc s.cfg.xlen (t.extraValue e) = xtrunc s.cfg.xlen (new &&& e.mask) ∧
    ∀ e' : ExtraCsr, e'.number ≠ e.number → t.extraValue e' = s.extraValue e'

/-- The same outcome as a 32-bit instruction's but for the pc step of 2 (R250). -/
def twoBytesLong (s : State) : Res → Res
  | .next t => .next { t with pc := xtrunc s.cfg.xlen (s.pc + 2#64) }
  | .fault e => .fault e
  | .refused r => .refused r

end Sys2Proof.Machine
end

