-- ==== Sys2Proof/Certificates/Slice0/Obligations.lean ====
section
/-! DEFINITION. The statements for the provers, from the numbered rules of spec/, in the words of
Safety.lean. Every statement is about all states, but for those on concrete words and on reset. -/

open Sys2Proof Sys2Proof.Machine

/-! ### Launch, reset and the invariants -/

/-- R541, R540: a run starts at `RESET_PC`, an address of `XLEN` bits that is `IALIGN`-aligned, with
`x0` zero, no reservation and nothing stale; every other register, `fcsr`, `instret` and every byte of
memory hold the launch's own values, whatever these are. A byte is the first of its address, modulo
2^`XLEN`, in the launch's list, and zero where the list has none: the model's choice, log entry 5. R515,
R9, R3: an `XLEN` other than 32 and 64, `NHARTS` other than 1, E, a letter of R3's list, and, by the
model's choice (log entry 17), any other parameters outside the admitted ones are refused instead. -/
def Obligations.LaunchStateIsAsSupplied : Prop :=
  ∀ l : Launch,
    (∀ t : State, l.start = .next t →
      t.pc = l.cfg.resetPc ∧ t.pc.toNat < 2 ^ t.cfg.xlen.bits ∧ t.pc.toNat % t.cfg.ialignBytes = 0 ∧
        t.readX 0#5 = 0#64 ∧
        (∀ r : RegIdx, r ≠ 0#5 → t.readX r = xtrunc t.cfg.xlen (l.x[r.toNat]'r.isLt)) ∧
        (∀ r : RegIdx, t.readF r = ftrunc t.cfg.flen (l.f[r.toNat]'r.isLt)) ∧
        t.fcsr = l.fcsr ∧ t.instret = l.instret ∧
        (∀ a, t.readByte a =
          ((l.image.find? fun c => c.1 % 2 ^ t.cfg.xlen.bits == a).map (·.2)).getD 0#8) ∧
        t.reservation = none ∧ t.stale = []) ∧
    (∀ x : Xlen, l.xlenBits = x.bits → l.nHarts = 1 → l.baseE = false → l.future = [] →
      let c := { l.cfg with xlen := x }
      let admitted := (c.ext.d = true → c.ext.f = true) ∧ (c.ext.q = true → c.ext.d = true) ∧
        (∀ r ∈ c.memMap, r.base + r.size ≤ 2 ^ x.bits) ∧ c.resetPc.toNat < 2 ^ x.bits ∧
        c.resetPc.toNat % c.ialignBytes = 0 ∧ ∃ k, c.resGran = 2 ^ k
      (admitted → ∃ t, l.start = .next t ∧ t.cfg = c) ∧
        (¬ admitted → l.start = .refused (.unsupported "parameters"))) ∧
    (l.xlenBits ≠ 32 → l.xlenBits ≠ 64 → l.start = .refused (.unsupported "XLEN")) ∧
    (l.xlenBits = 32 ∨ l.xlenBits = 64 → l.nHarts ≠ 1 → l.start = .refused (.unsupported "NHARTS")) ∧
    (l.xlenBits = 32 ∨ l.xlenBits = 64 → l.nHarts = 1 → l.baseE = true →
      l.start = .refused (.unsupported "E")) ∧
    (l.xlenBits = 32 ∨ l.xlenBits = 64 → l.nHarts = 1 → l.baseE = false → l.future ≠ [] →
      ∃ letter ∈ l.future, l.start = .refused (.unsupported letter.name))

/-- The state right after reset meets the invariant. The parameters and the register values are the
model's choice (log entries 2 and 3). -/
def Obligations.ResetMeetsTheInvariant : Prop := State.reset.ok = true

/-- Every step keeps the invariant: x registers of `XLEN` bits with `x0` zero (R20, R21), f registers of
`FLEN` bits (R40), an aligned pc of `XLEN` bits (R25, R27), memory and the stale set in canonical form
within the address space (R42, R44, R60), a reservation of 4 or 8 aligned bytes (R43, R342). -/
def Obligations.EveryStepKeepsTheInvariant : Prop :=
  ∀ s t : State, s.ok = true → step s = .next t → t.ok = true

/-! ### Encoding, decoding and fetching -/

/-- Decoding the words of a well-formed instruction gives the instruction back; an alias gives the
instruction it is another name of (R100, R128). -/
def Obligations.DecodeOfEncodeIsTheInstruction : Prop :=
  ∀ (c : Config) (i : Instr), i.wellFormed c = true → decode c (encode i) = .ok i.core

/-- What decodes is well-formed and encodes back to the same bits: no bit of an accepted word is
dropped, and no two words decode alike. -/
def Obligations.EncodeOfDecodeIsTheWord : Prop :=
  ∀ (c : Config) (e : Encoded) (i : Instr), decode c e = .ok i → i.wellFormed c = true ∧ encode i = e

/-- Where the bytes at the pc are present, executable and not stale and decode to an instruction, the
step is that instruction's effect and nothing beside it (R18, R77). -/
def Obligations.StepRunsTheDecodedInstruction : Prop :=
  ∀ (s : State) (e : Encoded) (i : Instr),
    (∀ k, k < e.size → s.allows .execute (byteAddr s.cfg.xlen s.pc k) = true ∧
      byteAddr s.cfg.xlen s.pc k ∉ s.stale ∧
      s.readByte (byteAddr s.cfg.xlen s.pc k) = BitVec.ofNat 8 (e.zext.toNat / 2 ^ (8 * k))) →
    (match e with
      | .half h => h.extractLsb' 0 2 ≠ 0b11#2
      | .word w => w.extractLsb' 0 2 = 0b11#2) →
    decode s.cfg e = .ok i → step s = exec i s

/-- Words written out from the spec's encodings decode to the instructions they stand for. -/
def Obligations.WordsDecodeAsWrittenOut : Prop :=
  decodeTableWord 32 0x003100B3 = some (.add 1#5 2#5 3#5) ∧
    decodeTableWord 32 0xFFF10093 = some (.addi 1#5 2#5 0xFFF#12) ∧
    decodeTableWord 32 0x00628463 = some (.beq 5#5 6#5 8#13) ∧
    decodeTableWord 32 0x00430283 = some (.lb 5#5 6#5 4#12) ∧
    decodeTableWord 32 0x003312F3 = some (.csrrw 5#5 3#12 6#5) ∧
    decodeTableWord 32 0x027312B3 = some (.mulh 5#5 6#5 7#5) ∧
    decodeTableWord 32 0x087322AF = some (.amoswapW 5#5 6#5 7#5 0#1 0#1) ∧
    decodeTableWord 32 0x007302D3 = some (.faddS 5#5 6#5 7#5 0#3) ∧
    decodeTableWord 32 0xF00302D3 = some (.fmvSX 5#5 6#5) ∧
    decodeTableWord 16 0x4588 = some (.cLw 2#3 3#3 8#7)

/-- R77: a parcel of which a byte is absent or not executable faults with the pc; otherwise a stale
byte in it is refused. The second parcel is looked at only where `p0[1:0] = 11`: otherwise the step is
what the first parcel decodes to, or `IllegalInstruction` of it, whatever holds of the bytes after it. -/
def Obligations.FetchChecksParcelByParcel : Prop :=
  ∀ s : State,
    let ok (k : Nat) := s.allows .execute (byteAddr s.cfg.xlen s.pc k) = true
    let stale (k : Nat) := byteAddr s.cfg.xlen s.pc k ∈ s.stale
    let long := (s.readByte (byteAddr s.cfg.xlen s.pc 0)).extractLsb' 0 2 = 0b11#2
    (¬ (ok 0 ∧ ok 1) → step s = .fault (.instructionAccessFault s.pc)) ∧
      (ok 0 → ok 1 → stale 0 ∨ stale 1 → step s = .refused .staleFetch) ∧
      (ok 0 → ok 1 → ¬ stale 0 → ¬ stale 1 → long → ¬ (ok 2 ∧ ok 3) →
        step s = .fault (.instructionAccessFault s.pc)) ∧
      (ok 0 → ok 1 → ¬ stale 0 → ¬ stale 1 → long → ok 2 → ok 3 → stale 2 ∨ stale 3 →
        step s = .refused .staleFetch) ∧
      (ok 0 → ok 1 → ¬ stale 0 → ¬ stale 1 → ¬ long →
        let p0 := s.readByte (byteAddr s.cfg.xlen s.pc 1) ++ s.readByte (byteAddr s.cfg.xlen s.pc 0)
        step s = match decode s.cfg (.half p0) with
          | .ok i => exec i s
          | .error _ => .fault (.illegalInstruction (p0.setWidth 32)))

/-- R504 cause 1: a fetched word that matches no row under the parameters raises
`IllegalInstruction(word)`, zero-extended; the all-zero parcel, the all-ones word and the words of R118
and of encodings longer than 32 bits (R91) are such words whatever the parameters. With `OFFCARD = off`
so are the words of R132's off-card instructions, C.ADDI16SP (ruling C11, log entry 23) and FSFLAGSI
(R484, log entry 12) among them; C.NOP's word stays C.ADDI's (R280). -/
def Obligations.UndecodableWordsAreIllegal : Prop :=
  (∀ (s : State) (h : BitVec 16) (err : DecodeError),
    (∀ k, k < 2 → s.allows .execute (byteAddr s.cfg.xlen s.pc k) = true ∧
      byteAddr s.cfg.xlen s.pc k ∉ s.stale ∧
      s.readByte (byteAddr s.cfg.xlen s.pc k) = BitVec.ofNat 8 (h.toNat / 2 ^ (8 * k))) →
    h.extractLsb' 0 2 ≠ 0b11#2 → decode s.cfg (.half h) = .error err →
    step s = .fault (.illegalInstruction (h.setWidth 32))) ∧
  (∀ (s : State) (w : BitVec 32) (err : DecodeError),
    (∀ k, k < 4 → s.allows .execute (byteAddr s.cfg.xlen s.pc k) = true ∧
      byteAddr s.cfg.xlen s.pc k ∉ s.stale ∧
      s.readByte (byteAddr s.cfg.xlen s.pc k) = BitVec.ofNat 8 (w.toNat / 2 ^ (8 * k))) →
    w.extractLsb' 0 2 = 0b11#2 → decode s.cfg (.word w) = .error err →
    step s = .fault (.illegalInstruction w)) ∧
  (∀ c : Config, ∃ err, decode c (.half 0#16) = .error err) ∧
  (∀ (c : Config) (w : BitVec 32),
    w.extractLsb' 2 5 ∈ [0b00010#5, 0b00111#5, 0b01010#5, 0b01111#5, 0b10101#5, 0b10110#5, 0b10111#5,
      0b11010#5, 0b11101#5, 0b11110#5, 0b11111#5] →
    w.extractLsb' 0 2 = 0b11#2 → ∃ err, decode c (.word w) = .error err) ∧
  (∀ (on : Config) (rd rs1 rs2 : RegIdx) (r r' : RegIdx3) (i12 csr : BitVec 12) (z : BitVec 5)
      (aq rl : BitVec 1) (rm : BitVec 3) (i6 sh : BitVec 6) (u7 : BitVec 7) (u8 : BitVec 8) (u9 : BitVec 9)
      (i10 : BitVec 10), on.offCard = .on →
    let off : Config := { on with offCard := .off }
    let gone (i : Instr) := i.wellFormed on = true → ∃ err, decode off (encode i) = .error err
    gone (.subw rd rs1 rs2) ∧ gone (.csrrsi rd csr z) ∧ gone (.divuw rd rs1 rs2) ∧
      gone (.amoxorW rd rs1 rs2 aq rl) ∧ gone (.amoxorD rd rs1 rs2 aq rl) ∧ gone (.fld rd rs1 i12) ∧
      gone (.fsd rs1 rs2 i12) ∧ gone (.flq rd rs1 i12) ∧ gone (.fsq rs1 rs2 i12) ∧ gone (.fsflagsi rd z) ∧
      gone (.fcvtSD rd rs1 rm) ∧ gone (.fcvtDS rd rs1 rm) ∧ gone (.fcvtSQ rd rs1 rm) ∧
      gone (.fcvtQS rd rs1 rm) ∧ gone (.fcvtDQ rd rs1 rm) ∧ gone (.fcvtQD rd rs1 rm) ∧
      gone (.cAddi16sp i10) ∧ gone (.cSub r r') ∧ gone (.cSrli r sh) ∧ gone (.cSrai r sh) ∧
      gone (.cAndi r i6) ∧ gone (.cXor r r') ∧ gone (.cOr r r') ∧ gone (.cAnd r r') ∧ gone (.cSubw r r') ∧
      gone (.cFlw r r' u7) ∧ gone (.cFsw r r' u7) ∧ gone (.cFlwsp rd u8) ∧ gone (.cFswsp rs2 u8) ∧
      gone (.cFld r r' u8) ∧ gone (.cFsd r r' u8) ∧ gone (.cFldsp rd u9) ∧ gone (.cFsdsp rs2 u9) ∧
      (on.ext.c = true → decode off (encode .cNop) = .ok (.cAddi 0#5 0#6)))

/-! ### Base integer instructions -/

/-- R167 to R169, R141: ADD, ADDI and SUB are modulo 2^`XLEN`, and change nothing else. -/
def Obligations.AdditionIsModuloTheRegisterWidth : Prop :=
  ∀ (s : State) (rd rs1 rs2 : RegIdx) (imm : BitVec 12),
    completesX (.add rd rs1 rs2) 4 s rd (fun v => v.toNat = (s.ux rs1 + s.ux rs2) % s.modulus) ∧
      completesX (.addi rd rs1 imm) 4 s rd (fun v => (v.toNat : Int) = (s.ux rs1 + imm.toInt) % s.modulus) ∧
      completesX (.sub rd rs1 rs2) 4 s rd
        (fun v => (v.toNat : Int) = ((s.ux rs1 : Int) - s.ux rs2) % s.modulus)

/-- R173, R174, R104: LUI and AUIPC, the 20-bit field signed and placed at bit 12. -/
def Obligations.UpperImmediatesArePlacedAtBitTwelve : Prop :=
  ∀ (s : State) (rd : RegIdx) (imm : BitVec 20),
    completesX (.lui rd imm) 4 s rd (fun v => (v.toNat : Int) = imm.toInt * 4096 % s.modulus) ∧
      completesX (.auipc rd imm) 4 s rd
        (fun v => (v.toNat : Int) = ((s.pc.toNat : Int) + imm.toInt * 4096) % s.modulus)

/-- R175 to R180: the logical instructions, bit by bit, the immediate sign-extended. -/
def Obligations.LogicalInstructionsWorkBitByBit : Prop :=
  ∀ (s : State) (rd rs1 rs2 : RegIdx) (imm : BitVec 12),
    let bits := s.cfg.xlen.bits
    let a (k : Nat) := (s.readX rs1).getLsbD k
    let b (k : Nat) := (s.readX rs2).getLsbD k
    let c (k : Nat) := if k < 12 then imm.getLsbD k else imm.msb
    completesX (.xor rd rs1 rs2) 4 s rd (fun v => ∀ k, k < bits → v.getLsbD k = (a k != b k)) ∧
      completesX (.xori rd rs1 imm) 4 s rd (fun v => ∀ k, k < bits → v.getLsbD k = (a k != c k)) ∧
      completesX (.or rd rs1 rs2) 4 s rd (fun v => ∀ k, k < bits → v.getLsbD k = (a k || b k)) ∧
      completesX (.ori rd rs1 imm) 4 s rd (fun v => ∀ k, k < bits → v.getLsbD k = (a k || c k)) ∧
      completesX (.and rd rs1 rs2) 4 s rd (fun v => ∀ k, k < bits → v.getLsbD k = (a k && b k)) ∧
      completesX (.andi rd rs1 imm) 4 s rd (fun v => ∀ k, k < bits → v.getLsbD k = (a k && c k))

/-- R155 to R160, R141: a shift takes its amount from the low `log2(XLEN)` bits of `rs2`, or from
`shamt`; left and logical right shifts are unsigned, arithmetic right shifts are the signed floor. -/
def Obligations.ShiftsMultiplyAndDivideByPowersOfTwo : Prop :=
  ∀ (s : State) (rd rs1 rs2 : RegIdx) (shamt : BitVec 6),
    let n := s.ux rs2 % s.cfg.xlen.bits
    let k := shamt.toNat
    completesX (.sll rd rs1 rs2) 4 s rd (fun v => v.toNat = s.ux rs1 * 2 ^ n % s.modulus) ∧
      completesX (.srl rd rs1 rs2) 4 s rd (fun v => v.toNat = s.ux rs1 / 2 ^ n) ∧
      completesX (.sra rd rs1 rs2) 4 s rd (fun v => xsigned s.cfg.xlen v = s.sx rs1 / 2 ^ n) ∧
      (k < s.cfg.xlen.bits →
        completesX (.slli rd rs1 shamt) 4 s rd (fun v => v.toNat = s.ux rs1 * 2 ^ k % s.modulus) ∧
          completesX (.srli rd rs1 shamt) 4 s rd (fun v => v.toNat = s.ux rs1 / 2 ^ k) ∧
          completesX (.srai rd rs1 shamt) 4 s rd (fun v => xsigned s.cfg.xlen v = s.sx rs1 / 2 ^ k))

/-- R181 to R184: the comparisons write 1 or 0; SLTIU sign-extends its immediate, then compares
unsigned. -/
def Obligations.ComparisonsWriteOneOrZero : Prop :=
  ∀ (s : State) (rd rs1 rs2 : RegIdx) (imm : BitVec 12),
    completesX (.slt rd rs1 rs2) 4 s rd (fun v => v.toNat = if s.sx rs1 < s.sx rs2 then 1 else 0) ∧
      completesX (.slti rd rs1 imm) 4 s rd (fun v => v.toNat = if s.sx rs1 < imm.toInt then 1 else 0) ∧
      completesX (.sltu rd rs1 rs2) 4 s rd (fun v => v.toNat = if s.ux rs1 < s.ux rs2 then 1 else 0) ∧
      completesX (.sltiu rd rs1 imm) 4 s rd
        (fun v => v.toNat = if (s.ux rs1 : Int) < imm.toInt % s.modulus then 1 else 0)

/-- R161 to R166, R170 to R172, R141: on RV64 the `W` forms compute on the low 32 bits of their sources
and write the 32-bit result sign-extended. -/
def Obligations.WordFormsSignExtendTheirResult : Prop :=
  ∀ (s : State) (rd rs1 rs2 : RegIdx) (imm : BitVec 12) (shamt : BitVec 5), s.cfg.xlen = .rv64 →
    let word (i : Instr) (r : Int) := completesX i 4 s rd (fun v => v.toInt = r.bmod (2 ^ 32))
    let n := s.ux rs2 % 32
    word (.addw rd rs1 rs2) (s.sw rs1 + s.sw rs2) ∧
      word (.addiw rd rs1 imm) (s.sw rs1 + imm.toInt) ∧
      word (.subw rd rs1 rs2) (s.sw rs1 - s.sw rs2) ∧
      word (.sllw rd rs1 rs2) (s.sw rs1 * 2 ^ n) ∧
      word (.slliw rd rs1 shamt) (s.sw rs1 * 2 ^ shamt.toNat) ∧
      word (.srlw rd rs1 rs2) (s.sw rs1 % 2 ^ 32 / 2 ^ n) ∧
      word (.srliw rd rs1 shamt) (s.sw rs1 % 2 ^ 32 / 2 ^ shamt.toNat) ∧
      word (.sraw rd rs1 rs2) (s.sw rs1 / 2 ^ n) ∧
      word (.sraiw rd rs1 shamt) (s.sw rs1 / 2 ^ shamt.toNat)

/-- R185 to R190, R143: a branch whose condition holds goes to `pc + imm` modulo 2^`XLEN`, or raises
`InstructionAddressMisaligned` there if that is not `IALIGN`-aligned; otherwise it goes to `pc + 4`.
It changes no register, flag or memory. -/
def Obligations.BranchesGoWhereTheirConditionSays : Prop :=
  ∀ (s : State) (rs1 rs2 : RegIdx) (imm : BitVec 13),
    let target := s.pcRel imm
    let branch (i : Instr) (taken : Prop) :=
      (taken → target.toNat % s.cfg.ialignBytes = 0 → completesAt i s target) ∧
        (taken → target.toNat % s.cfg.ialignBytes ≠ 0 →
          exec i s = .fault (.instructionAddressMisaligned target)) ∧
        (¬ taken → completesAt i s (xtrunc s.cfg.xlen (s.pc + 4#64)))
    (target.toNat : Int) = ((s.pc.toNat : Int) + imm.toInt) % s.modulus ∧
      branch (.beq rs1 rs2 imm) (s.ux rs1 = s.ux rs2) ∧ branch (.bne rs1 rs2 imm) (s.ux rs1 ≠ s.ux rs2) ∧
      branch (.blt rs1 rs2 imm) (s.sx rs1 < s.sx rs2) ∧ branch (.bge rs1 rs2 imm) (s.sx rs1 ≥ s.sx rs2) ∧
      branch (.bltu rs1 rs2 imm) (s.ux rs1 < s.ux rs2) ∧ branch (.bgeu rs1 rs2 imm) (s.ux rs1 ≥ s.ux rs2)

/-- R191, R192, R143: JAL and JALR go to their target, JALR's with bit 0 cleared, and link `pc + 4`
computed before the target register is overwritten; a misaligned target raises and links nothing. -/
def Obligations.JumpsLinkTheFollowingAddress : Prop :=
  ∀ (s : State) (rd rs1 : RegIdx) (imm : BitVec 21) (off : BitVec 12),
    let link := xtrunc s.cfg.xlen (s.pc + 4#64)
    let jump (i : Instr) (target : Word) :=
      (target.toNat % s.cfg.ialignBytes = 0 → ∃ t, exec i s = .next t ∧ linkedX target rd link s t) ∧
        (target.toNat % s.cfg.ialignBytes ≠ 0 → exec i s = .fault (.instructionAddressMisaligned target))
    ((s.pcRel imm).toNat : Int) = ((s.pc.toNat : Int) + imm.toInt) % s.modulus ∧
      ((s.jalrTarget rs1 off).toNat : Int) =
        (s.ux rs1 + off.toInt) % s.modulus - (s.ux rs1 + off.toInt) % 2 ∧
      jump (.jal rd imm) (s.pcRel imm) ∧ jump (.jalr rd rs1 off) (s.jalrTarget rs1 off)

/-! ### Memory -/

/-- R61: the value of `n` bytes is little-endian: bits `8k+7:8k` of what is read are the byte at
`a + k`, modulo 2^`XLEN`, and a write stores bits `8k+7:8k` there. -/
def Obligations.MemoryIsLittleEndian : Prop :=
  ∀ (s : State) (a : Word) (v n k : Nat), k < n →
    let at_ := (a.toNat + k) % s.modulus
    s.readBytes a n / 2 ^ (8 * k) % 2 ^ 8 = (s.readByte at_).toNat ∧ s.readBytes a n < 2 ^ (8 * n) ∧
      (s.mem.wf = true → n ≤ 16 →
        ((s.writeBytes a v n).readByte at_).toNat = v / 2 ^ (8 * k) % 2 ^ 8)

/-- R144 to R150, R142, R66: an accessible load writes the bytes at `x[rs1] + imm` modulo 2^`XLEN`,
sign-extended, or zero-extended for the unsigned forms; LD and LWU on RV64. -/
def Obligations.LoadsWriteTheBytesAtTheEffectiveAddress : Prop :=
  ∀ (s : State) (rd rs1 : RegIdx) (imm : BitVec 12),
    let a := s.ea rs1 imm
    let signed (i : Instr) (n : Nat) := accessible s .read a n →
      completesX i 4 s rd (fun v => xsigned s.cfg.xlen v = (s.readBytes a n : Int).bmod (2 ^ (8 * n)))
    let unsigned (i : Instr) (n : Nat) := accessible s .read a n →
      completesX i 4 s rd (fun v => v.toNat = s.readBytes a n)
    (a.toNat : Int) = (s.ux rs1 + imm.toInt) % s.modulus ∧
      signed (.lb rd rs1 imm) 1 ∧ signed (.lh rd rs1 imm) 2 ∧ signed (.lw rd rs1 imm) 4 ∧
      unsigned (.lbu rd rs1 imm) 1 ∧ unsigned (.lhu rd rs1 imm) 2 ∧
      (s.cfg.xlen = .rv64 → signed (.ld rd rs1 imm) 8 ∧ unsigned (.lwu rd rs1 imm) 4)

/-- R64, R66: a load that is misaligned under `MISALIGNED = trap` raises `LoadAddressMisaligned`;
otherwise one of whose bytes is absent or not readable raises `LoadAccessFault`; both report the
effective address. A one-byte load is never misaligned. -/
def Obligations.LoadsTrapOnMisalignmentThenOnAccess : Prop :=
  ∀ (s : State) (rd rs1 : RegIdx) (imm : BitVec 12),
    let a := s.ea rs1 imm
    let traps (i : Instr) (n : Nat) :=
      (s.cfg.misaligned = .trap → a.toNat % n ≠ 0 → exec i s = .fault (.loadAddressMisaligned a)) ∧
        ((a.toNat % n = 0 ∨ s.cfg.misaligned = .split) →
          (∃ k, k < n ∧ s.allows .read (byteAddr s.cfg.xlen a k) = false) →
          exec i s = .fault (.loadAccessFault a))
    traps (.lb rd rs1 imm) 1 ∧ traps (.lh rd rs1 imm) 2 ∧ traps (.lw rd rs1 imm) 4 ∧ traps (.ld rd rs1 imm) 8 ∧
      traps (.lbu rd rs1 imm) 1 ∧ traps (.lhu rd rs1 imm) 2 ∧ traps (.lwu rd rs1 imm) 4 ∧
      traps (.flw rd rs1 imm) 4 ∧ traps (.fld rd rs1 imm) 8 ∧ traps (.flq rd rs1 imm) 16

/-- R151 to R154, R142, R66: an accessible store writes the low bytes of `x[rs2]` at `x[rs1] + imm`
modulo 2^`XLEN`, little-endian, adds their addresses to the stale set, and changes nothing else. -/
def Obligations.StoresWriteTheLowBytesOfTheSource : Prop :=
  ∀ (s : State) (rs1 rs2 : RegIdx) (imm : BitVec 12), s.mem.wf = true →
    let a := s.ea rs1 imm
    (a.toNat : Int) = (s.ux rs1 + imm.toInt) % s.modulus ∧
      (accessible s .write a 1 → completesStore (.sb rs1 rs2 imm) 4 s a 1 (s.ux rs2)) ∧
      (accessible s .write a 2 → completesStore (.sh rs1 rs2 imm) 4 s a 2 (s.ux rs2)) ∧
      (accessible s .write a 4 → completesStore (.sw rs1 rs2 imm) 4 s a 4 (s.ux rs2)) ∧
      (s.cfg.xlen = .rv64 → accessible s .write a 8 → completesStore (.sd rs1 rs2 imm) 4 s a 8 (s.ux rs2))

/-- R64, R66: a store that is misaligned under `MISALIGNED = trap` raises `StoreAddressMisaligned`;
otherwise one of whose bytes is absent or not writable raises `StoreAccessFault`; both report the
effective address. A one-byte store is never misaligned. -/
def Obligations.StoresTrapOnMisalignmentThenOnAccess : Prop :=
  ∀ (s : State) (rs1 rs2 : RegIdx) (imm : BitVec 12),
    let a := s.ea rs1 imm
    let traps (i : Instr) (n : Nat) :=
      (s.cfg.misaligned = .trap → a.toNat % n ≠ 0 → exec i s = .fault (.storeAddressMisaligned a)) ∧
        ((a.toNat % n = 0 ∨ s.cfg.misaligned = .split) →
          (∃ k, k < n ∧ s.allows .write (byteAddr s.cfg.xlen a k) = false) →
          exec i s = .fault (.storeAccessFault a))
    traps (.sb rs1 rs2 imm) 1 ∧ traps (.sh rs1 rs2 imm) 2 ∧ traps (.sw rs1 rs2 imm) 4 ∧
      traps (.sd rs1 rs2 imm) 8 ∧ traps (.fsw rs1 rs2 imm) 4 ∧ traps (.fsd rs1 rs2 imm) 8 ∧
      traps (.fsq rs1 rs2 imm) 16

/-- A load of the bytes a store of the same width has just written gives them back (R61, R69, R72). -/
def Obligations.LoadAfterStoreGivesTheStoredBytes : Prop :=
  ∀ (s t : State) (a : Word) (v n : Nat), s.mem.wf = true → n ≤ 16 → t = s.writeBytes a v n →
    t.readBytes a n = v % 2 ^ (8 * n) ∧ t.mem.wf = true

/-- R193, R194, R73, R75: FENCE changes nothing but the pc and `instret`, whatever its fields; FENCE.I
beside that empties the stale set. -/
def Obligations.FencesChangeNothingButTheStaleSet : Prop :=
  ∀ (s : State) (pred succ ign1 : BitVec 4) (ign2 ign3 : RegIdx) (ign : BitVec 12),
    let quiet (t : State) := retiredBy 4 s t ∧ sameX s t ∧ sameF s t ∧ t.fcsr = s.fcsr ∧
      (∀ a, t.readByte a = s.readByte a) ∧ sameSystem s t
    (∃ t, exec (.fence pred succ ign1 ign2 ign3) s = .next t ∧ quiet t ∧ t.stale = s.stale) ∧
      (∃ t, exec (.fenceI ign ign2 ign3) s = .next t ∧ quiet t ∧ t.stale = [])

/-! ### System instructions and CSRs -/

/-- R503, R502: SCALL and ECALL raise `EnvironmentCall`, SBREAK, EBREAK and C.EBREAK raise
`Breakpoint(pc)`, in every state. The outcome carries no next state: that the final state is the one
before the step is log entry 13. -/
def Obligations.CallsAndBreakpointsEndTheRun : Prop :=
  ∀ s : State,
    exec .scall s = .fault .environmentCall ∧ exec .ecall s = .fault .environmentCall ∧
      exec .sbreak s = .fault (.breakpoint s.pc) ∧ exec .ebreak s = .fault (.breakpoint s.pc) ∧
      exec .cEbreak s = .fault (.breakpoint s.pc)

/-- R229 to R235: the privileged instructions the sources only name are refused by name; WFI is refused
or, under `WFI_MODE = nop`, changes nothing but the pc and `instret`. -/
def Obligations.PrivilegedInstructionsAreRefused : Prop :=
  ∀ (s : State) (rs1 : RegIdx),
    exec .eret s = .refused (.privileged "ERET") ∧ exec .mrts s = .refused (.privileged "MRTS") ∧
      exec .mrth s = .refused (.privileged "MRTH") ∧ exec .hrts s = .refused (.privileged "HRTS") ∧
      exec (.sfenceVm rs1) s = .refused (.privileged "SFENCE.VM") ∧
      (s.cfg.wfiMode = .refuse → exec .wfi s = .refused (.privileged "WFI")) ∧
      (s.cfg.wfiMode = .nop → ∃ t, exec .wfi s = .next t ∧ retiredBy 4 s t ∧ sameX s t ∧ sameF s t ∧
        t.fcsr = s.fcsr ∧ sameMemory s t ∧ sameSystem s t)

/-- R220 steps 1 to 3: a CSR instruction on a CSR that does not exist, or one that would write a
read-only CSR, raises `IllegalInstruction` with its own word; whether it writes depends on the field,
not on the register's value. -/
def Obligations.CsrInstructionsTrapOnAbsentOrReadOnly : Prop :=
  ∀ (s : State) (rd rs1 : RegIdx) (csr : BitVec 12) (zimm : BitVec 5),
    let illegal (i : Instr) := exec i s = .fault (.illegalInstruction (encode i).zext)
    let readOnly := csr.extractLsb' 10 2 = 0b11#2
    (s.csrAt csr = none ∨ readOnly → illegal (.csrrw rd csr rs1) ∧ illegal (.csrrwi rd csr zimm)) ∧
      (s.csrAt csr = none ∨ (readOnly ∧ rs1 ≠ 0#5) →
        illegal (.csrrs rd csr rs1) ∧ illegal (.csrrc rd csr rs1)) ∧
      (s.csrAt csr = none ∨ (readOnly ∧ zimm ≠ 0#5) →
        illegal (.csrrsi rd csr zimm) ∧ illegal (.csrrci rd csr zimm))

/-- R33, R32: the CSRs that exist: `fflags`, `frm` and `fcsr` with F, `cycle`, `time` and `instret`
always, their upper halves on RV32 only, and of `CsrExtra` those with no number of R33's table. The CSR
instructions on one of these read its storage and write it within its mask; what `CsrExtra` may hold and
that its CSRs are plain storage is the model's choice, log entry 9. -/
def Obligations.CsrsExistAsTheTableSays : Prop :=
  ∀ s : State,
    (∀ n ∈ [1#12, 2#12, 3#12], ((s.csrAt n).isSome = true ↔ s.cfg.ext.f = true)) ∧
      s.csrAt 0xC00#12 = some .cycle ∧ s.csrAt 0xC01#12 = some .time ∧ s.csrAt 0xC02#12 = some .instret ∧
      (∀ n ∈ [0xC80#12, 0xC81#12, 0xC82#12], ((s.csrAt n).isSome = true ↔ s.cfg.xlen = .rv32)) ∧
      ∀ n, n ∉ [1#12, 2#12, 3#12, 0xC00#12, 0xC01#12, 0xC02#12, 0xC80#12, 0xC81#12, 0xC82#12] →
        ((s.csrAt n).isSome = true ↔ ∃ e ∈ s.cfg.csrExtra, e.number = n) ∧
        ∀ (e : ExtraCsr) (rd rs1 : RegIdx) (zimm : BitVec 5), s.csrAt n = some (.extra e) →
          let old := xtrunc s.cfg.xlen (s.extraValue e)
          let gives (i : Instr) (new : Word) := ∃ t, exec i s = .next t ∧ wroteExtra rd e old new s t
          e.number = n ∧ gives (.csrrs rd n 0#5) old ∧ gives (.csrrc rd n 0#5) old ∧
            gives (.csrrsi rd n 0#5) old ∧ gives (.csrrci rd n 0#5) old ∧
            (n.extractLsb' 10 2 ≠ 0b11#2 →
              gives (.csrrw rd n rs1) (s.readX rs1) ∧ gives (.csrrs rd n rs1) (old ||| s.readX rs1) ∧
              gives (.csrrc rd n rs1) (old &&& ~~~ s.readX rs1) ∧
              gives (.csrrwi rd n zimm) (zimm.setWidth 64) ∧
              gives (.csrrsi rd n zimm) (old ||| zimm.setWidth 64) ∧
              gives (.csrrci rd n zimm) (old &&& ~~~ zimm.setWidth 64))

/-- R221 to R226, R37 to R39: the six CSR instructions on `fflags`, `frm` and `fcsr`: `x[rd]` gets the
old value, the field is swapped, set or cleared, and the other field of `fcsr` stays. -/
def Obligations.CsrInstructionsOnTheFloatingPointStatus : Prop :=
  ∀ (s : State) (rd rs1 : RegIdx) (zimm : BitVec 5), s.cfg.ext.f = true →
    ∀ p ∈ [(1#12, Csr.fflags), (2#12, Csr.frm), (3#12, Csr.fcsr)],
      let old := fpCsrValue s p.2
      let writes (i : Instr) (new : Word) := ∃ t, exec i s = .next t ∧
        wroteCsr rd old (fpCsrAfter s new p.2) s t
      writes (.csrrw rd p.1 rs1) (s.readX rs1) ∧ writes (.csrrs rd p.1 rs1) (old ||| s.readX rs1) ∧
        writes (.csrrc rd p.1 rs1) (old &&& ~~~ s.readX rs1) ∧
        writes (.csrrwi rd p.1 zimm) (zimm.setWidth 64) ∧
        writes (.csrrsi rd p.1 zimm) (old ||| zimm.setWidth 64) ∧
        writes (.csrrci rd p.1 zimm) (old &&& ~~~ zimm.setWidth 64)

/-- R477 to R484: the floating-point configuration instructions read or swap `fcsr`, `frm` and
`fflags`; a pure read leaves all of `fcsr` as it was. FSFLAGSI does so with `OFFCARD = on`; with `off`
its word is illegal (R484, log entry 12), as `UndecodableWordsAreIllegal` says. -/
def Obligations.FloatingPointConfigurationReadsAndSwaps : Prop :=
  ∀ (s : State) (rd rs1 : RegIdx) (zimm : BitVec 5), s.cfg.ext.f = true →
    let reads (i : Instr) (c : Csr) := ∃ t, exec i s = .next t ∧ wroteCsr rd (fpCsrValue s c) s.fcsr s t
    let swaps (i : Instr) (c : Csr) (v : Word) := ∃ t, exec i s = .next t ∧
      wroteCsr rd (fpCsrValue s c) (fpCsrAfter s v c) s t
    reads (.frcsr rd) .fcsr ∧ reads (.frrm rd) .frm ∧ reads (.frflags rd) .fflags ∧
      swaps (.fscsr rd rs1) .fcsr (s.readX rs1) ∧ swaps (.fsrm rd rs1) .frm (s.readX rs1) ∧
      swaps (.fsflags rd rs1) .fflags (s.readX rs1) ∧
      swaps (.fsrmi rd zimm) .frm (zimm.setWidth 64) ∧
      (s.cfg.offCard = .on → swaps (.fsflagsi rd zimm) .fflags (zimm.setWidth 64))

/-- R197 to R202, R34 to R36: a read of `instret` gives the count before it; a read of `cycle` or `time`
gives some value no smaller than the last one delivered, which value is free; the H forms, on RV32,
give the upper half. -/
def Obligations.CounterReadsDeliverTheCounters : Prop :=
  ∀ (s : State) (rd : RegIdx),
    let low (v : BitVec 64) := xtrunc s.cfg.xlen v
    let high (v : BitVec 64) := BitVec.ofNat 64 (v.toNat / 2 ^ 32)
    let others (t : State) := retiredBy 4 s t ∧ sameXBut rd s t ∧ sameF s t ∧ t.fcsr = s.fcsr ∧
      sameMemory s t ∧ t.cfg = s.cfg ∧ t.reservation = s.reservation ∧ t.extraCsrs = s.extraCsrs
    let cycle (i : Instr) (part : BitVec 64 → Word) := ∃ t, exec i s = .next t ∧ others t ∧
      t.timeLast = s.timeLast ∧ s.cycleLast.toNat ≤ t.cycleLast.toNat ∧
      t.readX rd = if rd = 0#5 then 0#64 else part t.cycleLast
    let time (i : Instr) (part : BitVec 64 → Word) := ∃ t, exec i s = .next t ∧ others t ∧
      t.cycleLast = s.cycleLast ∧ s.timeLast.toNat ≤ t.timeLast.toNat ∧
      t.readX rd = if rd = 0#5 then 0#64 else part t.timeLast
    cycle (.rdcycle rd) low ∧ time (.rdtime rd) low ∧
      completesX (.rdinstret rd) 4 s rd (fun v => v = low s.instret) ∧
      (s.cfg.xlen = .rv32 → cycle (.rdcycleh rd) high ∧ time (.rdtimeh rd) high ∧
        completesX (.rdinstreth rd) 4 s rd (fun v => v = high s.instret))

/-- R36: every instruction that completes adds one to `instret`, modulo 2^64, and a read of `instret`
or `instreth` gives the count before it. -/
def Obligations.EveryCompletedInstructionIsCounted : Prop :=
  (∀ (i : Instr) (s t : State), exec i s = .next t → t.instret.toNat = (s.instret.toNat + 1) % 2 ^ 64) ∧
    (∀ (s : State) (rd : RegIdx),
      completesX (.rdinstret rd) 4 s rd (fun v => v.toNat = s.instret.toNat % s.modulus) ∧
        (s.cfg.xlen = .rv32 →
          completesX (.rdinstreth rd) 4 s rd (fun v => v.toNat = s.instret.toNat / 2 ^ 32)))

/-- What each kind of state is changed by, over every instruction that completes: the parameters by none
(R47), the reservation by LR and SC only (R43), `frm` by CSR instructions only, the flags cleared by CSR
instructions only (R39), the stale set emptied by FENCE.I only (R44, R75). -/
def Obligations.StateIsChangedOnlyByItsOwnInstructions : Prop :=
  ∀ (i : Instr) (s t : State), exec i s = .next t →
    t.cfg = s.cfg ∧
      (t.reservation = s.reservation ∨ (∃ rd rs1 aq rl, i = .lrW rd rs1 aq rl ∨ i = .lrD rd rs1 aq rl) ∨
        (∃ rd rs1 rs2 aq rl, i = .scW rd rs1 rs2 aq rl ∨ i = .scD rd rs1 rs2 aq rl)) ∧
      ((t.frm = s.frm ∧ t.fflags &&& s.fflags = s.fflags ∧ t.extraCsrs = s.extraCsrs) ∨
        (∃ rd csr rs1, i.core = .csrrw rd csr rs1 ∨ i.core = .csrrs rd csr rs1 ∨ i.core = .csrrc rd csr rs1) ∨
        (∃ rd csr z, i.core = .csrrwi rd csr z ∨ i.core = .csrrsi rd csr z ∨ i.core = .csrrci rd csr z)) ∧
      ((∀ a ∈ s.stale, a ∈ t.stale) ∨ (∃ x y z, i = .fenceI x y z))

/-- R128, R227, R228, R280: an instruction that is another name of a core instruction does what that
instruction does. -/
def Obligations.AliasesRunAsTheirCoreInstruction : Prop :=
  ∀ (i : Instr) (s : State), exec i s = exec i.core s

/-! ### Multiplication and division -/

/-- R322 to R325, R330: the low or the upper half of the exact product, signed, mixed or unsigned; MULW
on RV64. -/
def Obligations.ProductsAreExactHalves : Prop :=
  ∀ (s : State) (rd rs1 rs2 : RegIdx),
    completesX (.mul rd rs1 rs2) 4 s rd (fun v => v.toNat = s.ux rs1 * s.ux rs2 % s.modulus) ∧
      completesX (.mulh rd rs1 rs2) 4 s rd
        (fun v => xsigned s.cfg.xlen v = s.sx rs1 * s.sx rs2 / s.modulus) ∧
      completesX (.mulhsu rd rs1 rs2) 4 s rd
        (fun v => xsigned s.cfg.xlen v = s.sx rs1 * s.ux rs2 / s.modulus) ∧
      completesX (.mulhu rd rs1 rs2) 4 s rd (fun v => v.toNat = s.ux rs1 * s.ux rs2 / s.modulus) ∧
      (s.cfg.xlen = .rv64 →
        completesX (.mulw rd rs1 rs2) 4 s rd (fun v => v.toInt = (s.sw rs1 * s.sw rs2).bmod (2 ^ 32)))

/-- R321: signed division rounds towards zero and the remainder has the sign of the dividend; division
by zero gives all ones and the dividend; the signed overflow gives the dividend and zero; none traps.
The `W` forms, on RV64, do the same on the low 32 bits and sign-extend. -/
def Obligations.DivisionRoundsTowardsZeroAndNeverTraps : Prop :=
  ∀ (s : State) (rd rs1 rs2 : RegIdx),
    let quotient (len : Nat) (a b : Int) : Int :=
      if b = 0 then -1 else if a = -(2 : Int) ^ (len - 1) ∧ b = -1 then a else a.tdiv b
    let remainder (len : Nat) (a b : Int) : Int :=
      if b = 0 then a else if a = -(2 : Int) ^ (len - 1) ∧ b = -1 then 0 else a.tmod b
    let n := s.cfg.xlen.bits
    let low (r : RegIdx) := s.ux r % 2 ^ 32
    completesX (.div rd rs1 rs2) 4 s rd
        (fun v => xsigned s.cfg.xlen v = quotient n (s.sx rs1) (s.sx rs2)) ∧
      completesX (.rem rd rs1 rs2) 4 s rd
        (fun v => xsigned s.cfg.xlen v = remainder n (s.sx rs1) (s.sx rs2)) ∧
      completesX (.divu rd rs1 rs2) 4 s rd
        (fun v => v.toNat = if s.ux rs2 = 0 then s.modulus - 1 else s.ux rs1 / s.ux rs2) ∧
      completesX (.remu rd rs1 rs2) 4 s rd
        (fun v => v.toNat = if s.ux rs2 = 0 then s.ux rs1 else s.ux rs1 % s.ux rs2) ∧
      (s.cfg.xlen = .rv64 →
        completesX (.divw rd rs1 rs2) 4 s rd (fun v => v.toInt = quotient 32 (s.sw rs1) (s.sw rs2)) ∧
          completesX (.remw rd rs1 rs2) 4 s rd (fun v => v.toInt = remainder 32 (s.sw rs1) (s.sw rs2)) ∧
          completesX (.divuw rd rs1 rs2) 4 s rd (fun v => v.toInt =
            if low rs2 = 0 then -1 else ((low rs1 / low rs2 : Nat) : Int).bmod (2 ^ 32)) ∧
          completesX (.remuw rd rs1 rs2) 4 s rd (fun v => v.toInt =
            if low rs2 = 0 then s.sw rs1 else ((low rs1 % low rs2 : Nat) : Int).bmod (2 ^ 32)))

/-! ### Atomics -/

/-- R341, R344 to R352, R355 to R363: an accessible AMO stores its operation of the old value and the low
bits of `x[rs2]`, writes the old value sign-extended, leaves the reservation, and changes nothing else,
whatever its `aq` and `rl` bits; the `.D` forms on RV64. -/
def Obligations.AmosStoreTheirOperationAndReturnTheOldValue : Prop :=
  ∀ (s : State) (rd rs1 rs2 : RegIdx) (aq rl : BitVec 1), s.mem.wf = true →
    let a := s.readX rs1
    let amo (w : Nat) (i : Instr) (op : BitVec w → BitVec w → BitVec w) :=
      accessibleAtomic s [.read, .write] a (w / 8) → ∃ t v, exec i s = .next t ∧ retiredBy 4 s t ∧
        storedBytes a (w / 8)
          (op (BitVec.ofNat w (s.readBytes a (w / 8))) ((s.readX rs2).setWidth w)).toNat s t ∧
        t.readX rd = (if rd = 0#5 then 0#64 else v) ∧
        xsigned s.cfg.xlen v = (BitVec.ofNat w (s.readBytes a (w / 8))).toInt ∧
        sameXBut rd s t ∧ sameF s t ∧ t.fcsr = s.fcsr ∧ sameSystem s t
    (amo 32 (.amoswapW rd rs1 rs2 aq rl) (fun _ v => v) ∧
      amo 32 (.amoaddW rd rs1 rs2 aq rl) (fun t v => t + v) ∧
      amo 32 (.amoxorW rd rs1 rs2 aq rl) (fun t v => t ^^^ v) ∧
      amo 32 (.amoandW rd rs1 rs2 aq rl) (fun t v => t &&& v) ∧
      amo 32 (.amoorW rd rs1 rs2 aq rl) (fun t v => t ||| v) ∧
      amo 32 (.amominW rd rs1 rs2 aq rl) (fun t v => if t.toInt ≤ v.toInt then t else v) ∧
      amo 32 (.amomaxW rd rs1 rs2 aq rl) (fun t v => if t.toInt ≤ v.toInt then v else t) ∧
      amo 32 (.amominuW rd rs1 rs2 aq rl) (fun t v => if t.toNat ≤ v.toNat then t else v) ∧
      amo 32 (.amomaxuW rd rs1 rs2 aq rl) (fun t v => if t.toNat ≤ v.toNat then v else t)) ∧
    (s.cfg.xlen = .rv64 →
      amo 64 (.amoswapD rd rs1 rs2 aq rl) (fun _ v => v) ∧
      amo 64 (.amoaddD rd rs1 rs2 aq rl) (fun t v => t + v) ∧
      amo 64 (.amoxorD rd rs1 rs2 aq rl) (fun t v => t ^^^ v) ∧
      amo 64 (.amoandD rd rs1 rs2 aq rl) (fun t v => t &&& v) ∧
      amo 64 (.amoorD rd rs1 rs2 aq rl) (fun t v => t ||| v) ∧
      amo 64 (.amominD rd rs1 rs2 aq rl) (fun t v => if t.toInt ≤ v.toInt then t else v) ∧
      amo 64 (.amomaxD rd rs1 rs2 aq rl) (fun t v => if t.toInt ≤ v.toInt then v else t) ∧
      amo 64 (.amominuD rd rs1 rs2 aq rl) (fun t v => if t.toNat ≤ v.toNat then t else v) ∧
      amo 64 (.amomaxuD rd rs1 rs2 aq rl) (fun t v => if t.toNat ≤ v.toNat then v else t))

/-- R342, R353: an accessible LR writes the value at `x[rs1]`, sign-extended, and holds a reservation of
its address and size, replacing any other. -/
def Obligations.LoadReservedReservesItsBytes : Prop :=
  ∀ (s : State) (rd rs1 : RegIdx) (aq rl : BitVec 1),
    let a := s.readX rs1
    let lr (w : Nat) (i : Instr) := accessibleAtomic s [.read] a (w / 8) →
      ∃ t v, exec i s = .next t ∧ retiredBy 4 s t ∧
        t.readX rd = (if rd = 0#5 then 0#64 else v) ∧
        xsigned s.cfg.xlen v = (BitVec.ofNat w (s.readBytes a (w / 8))).toInt ∧
        t.reservation = some { addr := a, size := w / 8 } ∧
        sameXBut rd s t ∧ sameF s t ∧ t.fcsr = s.fcsr ∧ sameMemory s t ∧ t.cfg = s.cfg ∧
        t.extraCsrs = s.extraCsrs ∧ t.cycleLast = s.cycleLast ∧ t.timeLast = s.timeLast
    lr 32 (.lrW rd rs1 aq rl) ∧ (s.cfg.xlen = .rv64 → lr 64 (.lrD rd rs1 aq rl))

/-- R343, R354: an accessible SC clears the reservation; where the reservation is of its size (D15, log
entry 10) and covers its bytes it may succeed, storing and writing 0, or fail, as a draw that is free
says; where it is not, it fails, leaving memory alone and writing 1. -/
def Obligations.StoreConditionalStoresOnlyUnderItsReservation : Prop :=
  ∀ (s : State) (rd rs1 rs2 : RegIdx) (aq rl : BitVec 1), s.mem.wf = true →
    let a := s.readX rs1
    let covered (n : Nat) := ∃ r base, s.reservation = some r ∧ r.size = n ∧ base % max s.cfg.resGran r.size = 0 ∧
      base ≤ r.addr.toNat ∧ r.addr.toNat < base + max s.cfg.resGran r.size ∧
      base ≤ a.toNat ∧ a.toNat + n ≤ base + max s.cfg.resGran r.size
    let sc (w : Nat) (i : Instr) := accessibleAtomic s [.write] a (w / 8) →
      ∃ t, exec i s = .next t ∧ retiredBy 4 s t ∧ t.reservation = none ∧
        sameXBut rd s t ∧ sameF s t ∧ t.fcsr = s.fcsr ∧ t.cfg = s.cfg ∧
        t.extraCsrs = s.extraCsrs ∧ t.cycleLast = s.cycleLast ∧ t.timeLast = s.timeLast ∧
        let succeeds := storedBytes a (w / 8) (s.ux rs2 % 2 ^ w) s t ∧ t.readX rd = 0#64
        let fails := sameMemory s t ∧ t.readX rd = if rd = 0#5 then 0#64 else 1#64
        (covered (w / 8) → if Config.scDraw s.draws = true then succeeds else fails) ∧
        (¬ covered (w / 8) → fails)
    sc 32 (.scW rd rs1 rs2 aq rl) ∧ (s.cfg.xlen = .rv64 → sc 64 (.scD rd rs1 rs2 aq rl))

/-- R64, R341 to R343, R505: a misaligned atomic traps whatever `MISALIGNED` is, before an access fault;
LR reports load exceptions, SC and the AMOs store exceptions, the AMOs also where only reading is not
permitted. -/
def Obligations.AtomicsTrapWhateverTheMisalignedMode : Prop :=
  ∀ (s : State) (rd rs1 rs2 : RegIdx) (aq rl : BitVec 1),
    let a := s.readX rs1
    let denied (accs : List Access) (n : Nat) :=
      ∃ acc ∈ accs, ∃ k, k < n ∧ s.allows acc (byteAddr s.cfg.xlen a k) = false
    let traps (misaligned access : Fault) (accs : List Access) (i : Instr) (n : Nat) :=
      (a.toNat % n ≠ 0 → exec i s = .fault misaligned) ∧
        (a.toNat % n = 0 → denied accs n → exec i s = .fault access)
    let lr := traps (.loadAddressMisaligned a) (.loadAccessFault a) [.read]
    let sc := traps (.storeAddressMisaligned a) (.storeAccessFault a) [.write]
    let amo := traps (.storeAddressMisaligned a) (.storeAccessFault a) [.read, .write]
    lr (.lrW rd rs1 aq rl) 4 ∧ lr (.lrD rd rs1 aq rl) 8 ∧ sc (.scW rd rs1 rs2 aq rl) 4 ∧
      sc (.scD rd rs1 rs2 aq rl) 8 ∧ amo (.amoswapW rd rs1 rs2 aq rl) 4 ∧ amo (.amoaddW rd rs1 rs2 aq rl) 4 ∧
      amo (.amoxorW rd rs1 rs2 aq rl) 4 ∧ amo (.amoandW rd rs1 rs2 aq rl) 4 ∧ amo (.amoorW rd rs1 rs2 aq rl) 4 ∧
      amo (.amominW rd rs1 rs2 aq rl) 4 ∧ amo (.amomaxW rd rs1 rs2 aq rl) 4 ∧
      amo (.amominuW rd rs1 rs2 aq rl) 4 ∧ amo (.amomaxuW rd rs1 rs2 aq rl) 4 ∧
      amo (.amoswapD rd rs1 rs2 aq rl) 8 ∧ amo (.amoaddD rd rs1 rs2 aq rl) 8 ∧
      amo (.amoxorD rd rs1 rs2 aq rl) 8 ∧ amo (.amoandD rd rs1 rs2 aq rl) 8 ∧ amo (.amoorD rd rs1 rs2 aq rl) 8 ∧
      amo (.amominD rd rs1 rs2 aq rl) 8 ∧ amo (.amomaxD rd rs1 rs2 aq rl) 8 ∧
      amo (.amominuD rd rs1 rs2 aq rl) 8 ∧ amo (.amomaxuD rd rs1 rs2 aq rl) 8

/-! ### Floating point: registers and moves -/

/-- R41: a value written boxed reads back as itself; under `NANBOX = boxed` a register whose upper bits
are not all ones reads as the canonical NaN of a narrower format. -/
def Obligations.NarrowValuesAreNanBoxed : Prop :=
  ∀ (s : State) (m : Fmt) (r : RegIdx) (v : FWord), m.width ≤ s.cfg.flen →
    (s.writeBoxed m r v).unbox m r = ftrunc m.width v ∧
      (s.cfg.nanBox = .boxed → (∃ k, m.width ≤ k ∧ k < s.cfg.flen ∧ (s.readF r).getLsbD k = false) →
        s.unbox m r = m.canonicalNaN) ∧
      (s.cfg.nanBox = .boxed → (∀ k, m.width ≤ k → k < s.cfg.flen → (s.readF r).getLsbD k = true) →
        s.unbox m r = ftrunc m.width (s.readF r)) ∧
      (s.cfg.nanBox = .unspecifiedUpper → s.unbox m r = ftrunc m.width (s.readF r))

/-- R373 to R376: moves copy bits, with no rounding, flag or unboxing check; the single-precision move
to an x register sign-extends. -/
def Obligations.MovesCopyBits : Prop :=
  ∀ (s : State) (rd rs1 : RegIdx),
    ((Instr.fmvSX rd rs1).wellFormed s.cfg = true →
      completesF (.fmvSX rd rs1) 4 s .s rd ((s.readX rs1).setWidth 128, noFlags)) ∧
    ((Instr.fmvDX rd rs1).wellFormed s.cfg = true →
      completesF (.fmvDX rd rs1) 4 s .d rd ((s.readX rs1).setWidth 128, noFlags)) ∧
    completesX (.fmvXS rd rs1) 4 s rd
      (fun v => xsigned s.cfg.xlen v = ((s.readF rs1).setWidth 32).toInt) ∧
    ((Instr.fmvXD rd rs1).wellFormed s.cfg = true →
      completesX (.fmvXD rd rs1) 4 s rd (fun v => v.toNat = (s.readF rs1).toNat % 2 ^ 64))

/-- R380 to R385: an accessible floating-point load writes the bytes at its effective address, boxed,
and sets no flag; a store writes the low bits of its register, whatever the bits above them hold. -/
def Obligations.FloatingPointLoadsAndStoresMoveBits : Prop :=
  ∀ (s : State) (rd rs1 rs2 : RegIdx) (imm : BitVec 12), s.mem.wf = true →
    let a := s.ea rs1 imm
    let load (i : Instr) (m : Fmt) := i.wellFormed s.cfg = true → accessible s .read a (m.width / 8) →
      completesF i 4 s m rd (BitVec.ofNat 128 (s.readBytes a (m.width / 8)), noFlags)
    let store (i : Instr) (m : Fmt) := i.wellFormed s.cfg = true → accessible s .write a (m.width / 8) →
      completesStore i 4 s a (m.width / 8) ((s.readF rs2).toNat % 2 ^ m.width)
    load (.flw rd rs1 imm) .s ∧ load (.fld rd rs1 imm) .d ∧ load (.flq rd rs1 imm) .q ∧
      store (.fsw rs1 rs2 imm) .s ∧ store (.fsd rs1 rs2 imm) .d ∧ store (.fsq rs1 rs2 imm) .q

/-! ### Floating point: arithmetic -/

/-- R420, R38: `rm` 000 to 100 is that mode, 111 is the mode in `frm`; 101 and 110, and 111 where `frm`
is 101, 110 or 111, raise `IllegalInstruction` with the instruction's word, in every instruction with
an `rm` field. -/
def Obligations.InvalidRoundingModesAreIllegal : Prop :=
  ∀ (s : State) (rd rs1 rs2 rs3 : RegIdx) (rm : BitVec 3),
    let modes : List Rounding := [.rne, .rtz, .rdn, .rup, .rmm]
    let illegal (i : Instr) := exec i s = .fault (.illegalInstruction (encode i).zext)
    (rm.toNat < 5 → s.resolve rm = modes[rm.toNat]?) ∧
      (rm.toNat = 7 → s.resolve rm = modes[s.frm.toNat]?) ∧
      (rm.toNat = 5 ∨ rm.toNat = 6 ∨ (rm.toNat = 7 ∧ 5 ≤ s.frm.toNat) →
        illegal (.faddS rd rs1 rs2 rm) ∧ illegal (.faddD rd rs1 rs2 rm) ∧ illegal (.faddQ rd rs1 rs2 rm) ∧
          illegal (.fsubS rd rs1 rs2 rm) ∧ illegal (.fsubD rd rs1 rs2 rm) ∧ illegal (.fsubQ rd rs1 rs2 rm) ∧
          illegal (.fmulS rd rs1 rs2 rm) ∧ illegal (.fmulD rd rs1 rs2 rm) ∧ illegal (.fmulQ rd rs1 rs2 rm) ∧
          illegal (.fdivS rd rs1 rs2 rm) ∧ illegal (.fdivD rd rs1 rs2 rm) ∧ illegal (.fdivQ rd rs1 rs2 rm) ∧
          illegal (.fsqrtS rd rs1 rm) ∧ illegal (.fsqrtD rd rs1 rm) ∧ illegal (.fsqrtQ rd rs1 rm) ∧
          illegal (.fmaddS rd rs1 rs2 rs3 rm) ∧ illegal (.fmaddD rd rs1 rs2 rs3 rm) ∧
          illegal (.fmaddQ rd rs1 rs2 rs3 rm) ∧ illegal (.fmsubS rd rs1 rs2 rs3 rm) ∧
          illegal (.fmsubD rd rs1 rs2 rs3 rm) ∧ illegal (.fmsubQ rd rs1 rs2 rs3 rm) ∧
          illegal (.fnmsubS rd rs1 rs2 rs3 rm) ∧ illegal (.fnmsubD rd rs1 rs2 rs3 rm) ∧
          illegal (.fnmsubQ rd rs1 rs2 rs3 rm) ∧ illegal (.fnmaddS rd rs1 rs2 rs3 rm) ∧
          illegal (.fnmaddD rd rs1 rs2 rs3 rm) ∧ illegal (.fnmaddQ rd rs1 rs2 rs3 rm) ∧
          illegal (.fcvtSW rd rs1 rm) ∧ illegal (.fcvtDW rd rs1 rm) ∧ illegal (.fcvtQW rd rs1 rm) ∧
          illegal (.fcvtSWU rd rs1 rm) ∧ illegal (.fcvtDWU rd rs1 rm) ∧ illegal (.fcvtQWU rd rs1 rm) ∧
          illegal (.fcvtSL rd rs1 rm) ∧ illegal (.fcvtDL rd rs1 rm) ∧ illegal (.fcvtQL rd rs1 rm) ∧
          illegal (.fcvtSLU rd rs1 rm) ∧ illegal (.fcvtDLU rd rs1 rm) ∧ illegal (.fcvtQLU rd rs1 rm) ∧
          illegal (.fcvtWS rd rs1 rm) ∧ illegal (.fcvtWD rd rs1 rm) ∧ illegal (.fcvtWQ rd rs1 rm) ∧
          illegal (.fcvtWUS rd rs1 rm) ∧ illegal (.fcvtWUD rd rs1 rm) ∧ illegal (.fcvtWUQ rd rs1 rm) ∧
          illegal (.fcvtLS rd rs1 rm) ∧ illegal (.fcvtLD rd rs1 rm) ∧ illegal (.fcvtLQ rd rs1 rm) ∧
          illegal (.fcvtLUS rd rs1 rm) ∧ illegal (.fcvtLUD rd rs1 rm) ∧ illegal (.fcvtLUQ rd rs1 rm) ∧
          illegal (.fcvtSD rd rs1 rm) ∧ illegal (.fcvtDS rd rs1 rm) ∧ illegal (.fcvtSQ rd rs1 rm) ∧
          illegal (.fcvtQS rd rs1 rm) ∧ illegal (.fcvtDQ rd rs1 rm) ∧ illegal (.fcvtQD rd rs1 rm))

/-- R421: FADD, FSUB, FMUL, FDIV and FSQRT complete: they write what the model's own operation gives for
their unboxed operands, boxed, accrue its flags and change nothing else. What the operations give is
said by `UnflaggedArithmeticIsExact` and `InvalidOperationsGiveTheCanonicalNan`. -/
def Obligations.ArithmeticWritesTheRoundedResult : Prop :=
  ∀ (s : State) (rd rs1 rs2 : RegIdx) (rm : BitVec 3) (mode : Rounding), s.resolve rm = some mode →
    let a (m : Fmt) := s.unbox m rs1
    let b (m : Fmt) := s.unbox m rs2
    let done (i : Instr) (m : Fmt) (r : FWord × FFlags) :=
      i.wellFormed s.cfg = true → completesF i 4 s m rd r
    (done (.faddS rd rs1 rs2 rm) .s (Fmt.add .s mode (a .s) (b .s)) ∧
      done (.faddD rd rs1 rs2 rm) .d (Fmt.add .d mode (a .d) (b .d)) ∧
      done (.faddQ rd rs1 rs2 rm) .q (Fmt.add .q mode (a .q) (b .q))) ∧
    (done (.fsubS rd rs1 rs2 rm) .s (Fmt.sub .s mode (a .s) (b .s)) ∧
      done (.fsubD rd rs1 rs2 rm) .d (Fmt.sub .d mode (a .d) (b .d)) ∧
      done (.fsubQ rd rs1 rs2 rm) .q (Fmt.sub .q mode (a .q) (b .q))) ∧
    (done (.fmulS rd rs1 rs2 rm) .s (Fmt.mul .s mode (a .s) (b .s)) ∧
      done (.fmulD rd rs1 rs2 rm) .d (Fmt.mul .d mode (a .d) (b .d)) ∧
      done (.fmulQ rd rs1 rs2 rm) .q (Fmt.mul .q mode (a .q) (b .q))) ∧
    (done (.fdivS rd rs1 rs2 rm) .s (Fmt.div .s mode (a .s) (b .s)) ∧
      done (.fdivD rd rs1 rs2 rm) .d (Fmt.div .d mode (a .d) (b .d)) ∧
      done (.fdivQ rd rs1 rs2 rm) .q (Fmt.div .q mode (a .q) (b .q))) ∧
    (done (.fsqrtS rd rs1 rm) .s (Fmt.sqrt .s mode (a .s)) ∧
      done (.fsqrtD rd rs1 rm) .d (Fmt.sqrt .d mode (a .d)) ∧
      done (.fsqrtQ rd rs1 rm) .q (Fmt.sqrt .q mode (a .q)))

/-- R422: the fused multiply-adds write `(s1*rs1)*rs2 + s2*rs3` with the signs of the rule's table, and
what they write for finite operands whose exact result is not zero is that result rounded once, with the
flags of R421. -/
def Obligations.FusedMultiplyAddsRoundOnce : Prop :=
  (∀ (s : State) (rd rs1 rs2 rs3 : RegIdx) (rm : BitVec 3) (mode : Rounding), s.resolve rm = some mode →
    let done (i : Instr) (m : Fmt) (negProduct negAddend : Bool) := i.wellFormed s.cfg = true →
      completesF i 4 s m rd
        (m.fma mode negProduct negAddend (s.unbox m rs1) (s.unbox m rs2) (s.unbox m rs3))
    (done (.fmaddS rd rs1 rs2 rs3 rm) .s false false ∧ done (.fmaddD rd rs1 rs2 rs3 rm) .d false false ∧
      done (.fmaddQ rd rs1 rs2 rs3 rm) .q false false) ∧
    (done (.fmsubS rd rs1 rs2 rs3 rm) .s false true ∧ done (.fmsubD rd rs1 rs2 rs3 rm) .d false true ∧
      done (.fmsubQ rd rs1 rs2 rs3 rm) .q false true) ∧
    (done (.fnmsubS rd rs1 rs2 rs3 rm) .s true false ∧ done (.fnmsubD rd rs1 rs2 rs3 rm) .d true false ∧
      done (.fnmsubQ rd rs1 rs2 rs3 rm) .q true false) ∧
    (done (.fnmaddS rd rs1 rs2 rs3 rm) .s true true ∧ done (.fnmaddD rd rs1 rs2 rs3 rm) .d true true ∧
      done (.fnmaddQ rd rs1 rs2 rs3 rm) .q true true)) ∧
  (∀ (m : Fmt) (mode : Rounding) (negProduct negAddend : Bool) (a b c : FWord) (na nb nc : Bool)
      (ma mb mc : Nat) (ea eb ec : Int),
    m.unpack a = .finite na ma ea → m.unpack b = .finite nb mb eb → m.unpack c = .finite nc mc ec →
    let product : Rat := (if negProduct then -1 else 1) * ((m.unpack a).toRat * (m.unpack b).toRat)
    let addend : Rat := (if negAddend then -1 else 1) * (m.unpack c).toRat
    product + addend ≠ 0 →
      m.rounds mode ((product + addend : Rat) : Real) (m.fma mode negProduct negAddend a b c))

/-- R421, R422, R371: a NaN operand gives the canonical NaN, with NV exactly where one is signaling; the
invalid operations give the canonical NaN with NV; a finite nonzero number divided by zero gives the
infinity of the exclusive or of the signs with DZ. In a fused form the product decides first: zero times
infinity is invalid beside any addend. The valid operations on infinities give an infinity or a zero of
the sign of the operands, and no flag. -/
def Obligations.InvalidOperationsGiveTheCanonicalNan : Prop :=
  ∀ (m : Fmt) (mode : Rounding) (a b c : FWord),
    let va := m.unpack a
    let vb := m.unpack b
    let nan (invalid : Bool) := (m.canonicalNaN, if invalid then flagNV else noFlags)
    let zero (v : FVal) := ∃ n e, v = .finite n 0 e
    let isInf (v : FVal) := ∃ n, v = .inf n
    let finite (v : FVal) := ∃ n k e, v = .finite n k e
    let vc := m.unpack c
    let sa := m.sign a
    let sb := m.sign b
    let invalidProduct := (zero va ∧ isInf vb) ∨ (isInf va ∧ zero vb)
    let infiniteProduct := ¬ invalidProduct ∧ va.isNaN = false ∧ vb.isNaN = false ∧ (isInf va ∨ isInf vb)
    (va.isNaN = true ∨ vb.isNaN = true →
      let r := nan (va.isSignaling || vb.isSignaling)
      m.add mode a b = r ∧ m.sub mode a b = r ∧ m.mul mode a b = r ∧ m.div mode a b = r) ∧
    (va.isNaN = true → m.sqrt mode a = nan va.isSignaling) ∧
    (∀ n, va = .inf n → vb = .inf n → m.sub mode a b = nan true) ∧
    (∀ n, va = .inf n → vb = .inf (!n) → m.add mode a b = nan true) ∧
    ((zero va ∧ isInf vb) ∨ (isInf va ∧ zero vb) →
      m.mul mode a b = nan true ∧ ∀ n1 n2, m.fma mode n1 n2 a b c = nan true) ∧
    ((zero va ∧ zero vb) ∨ (isInf va ∧ isInf vb) → m.div mode a b = nan true) ∧
    (va = .inf true ∨ (∃ k e, va = .finite true (k + 1) e) → m.sqrt mode a = nan true) ∧
    (∀ na k ea nb eb, va = .finite na (k + 1) ea → vb = .finite nb 0 eb →
      m.div mode a b = (m.infinity (na != nb), flagDZ)) ∧
    (∀ e, va = .finite true 0 e → m.sqrt mode a = (m.zero true, noFlags)) ∧
    ((∀ n1 n2, ¬ invalidProduct → va.isNaN = true ∨ vb.isNaN = true ∨ vc.isNaN = true →
        m.fma mode n1 n2 a b c = nan (va.isSignaling || vb.isSignaling || vc.isSignaling)) ∧
      (∀ n1 n2 nc, infiniteProduct → vc = .inf nc →
        (n2 != nc) ≠ (n1 != (sa != sb)) → m.fma mode n1 n2 a b c = nan true) ∧
      (∀ n1 n2, infiniteProduct → finite vc ∨ vc = .inf (n2 != (n1 != (sa != sb))) →
        m.givesInfinity (m.fma mode n1 n2 a b c) (n1 != (sa != sb))) ∧
      (∀ n1 n2 nc, finite va → finite vb → vc = .inf nc →
        m.givesInfinity (m.fma mode n1 n2 a b c) (n2 != nc)) ∧
      (infiniteProduct → m.givesInfinity (m.mul mode a b) (sa != sb)) ∧
      (isInf va → finite vb ∨ vb = .inf sa → m.givesInfinity (m.add mode a b) sa) ∧
      (finite va → isInf vb → m.givesInfinity (m.add mode a b) sb ∧ m.givesInfinity (m.sub mode a b) (!sb)) ∧
      (isInf va → finite vb ∨ vb = .inf (!sa) → m.givesInfinity (m.sub mode a b) sa) ∧
      (isInf va → finite vb → m.givesInfinity (m.div mode a b) (sa != sb)) ∧
      (finite va → isInf vb → m.givesZero (m.div mode a b) ((sa != sb) = true)) ∧
      (va = .inf false → m.givesInfinity (m.sqrt mode a) false))

/-- R38: the five rounding modes. `n` is `mant * 2^exp` rounded to a multiple of `2^lsb`: the nearest,
ties to even or away from zero; or the one towards zero, down or up; and inexact says whether they
differ. -/
def Obligations.RoundingModesRoundAsNamed : Prop :=
  ∀ (mode : Rounding) (neg : Bool) (mant : Nat) (exp lsb : Int),
    let r := roundAt mode neg mant exp lsb
    let sign : Rat := if neg then -1 else 1
    let exact : Rat := sign * mant * (2 : Rat) ^ exp
    let rounded : Rat := sign * r.1 * (2 : Rat) ^ lsb
    let ulp : Rat := (2 : Rat) ^ lsb
    (r.2 = false ↔ rounded = exact) ∧ |rounded - exact| < ulp ∧
      (mode = .rne → |rounded - exact| ≤ ulp / 2 ∧ (|rounded - exact| = ulp / 2 → r.1 % 2 = 0)) ∧
      (mode = .rmm → |rounded - exact| ≤ ulp / 2 ∧ (|rounded - exact| = ulp / 2 → |exact| < |rounded|)) ∧
      (mode = .rtz → |rounded| ≤ |exact|) ∧ (mode = .rdn → rounded ≤ exact) ∧
      (mode = .rup → exact ≤ rounded)

/-- R421, R422: where no flag is raised and the operands are finite, the result is finite and is exactly
the sum, difference, product, quotient, square root, or fused product and sum of the operands. Flagged or
not, an exact result that is not zero is rounded once to the format in the mode, with OF, UF and NX as
R421 gives them. An exact zero has the sign of the operands: of both where they agree in a sum, else plus,
but minus under RDN; the exclusive or of their signs in a product or a quotient. -/
def Obligations.UnflaggedArithmeticIsExact : Prop :=
  ∀ (m : Fmt) (mode : Rounding) (a b c : FWord) (na nb nc : Bool) (ma mb mc : Nat) (ea eb ec : Int),
    let va := m.unpack a
    let vb := m.unpack b
    let vc := m.unpack c
    va = .finite na ma ea → vb = .finite nb mb eb → vc = .finite nc mc ec →
    let exactly (r : FWord × FFlags) (x : Rat) :=
      r.2 = noFlags → (∃ n k e, m.unpack r.1 = .finite n k e) ∧ (m.unpack r.1).toRat = x
    let rounded (r : FWord × FFlags) (x : Rat) := x ≠ 0 → m.rounds mode (x : Real) r
    let minus (n n' : Bool) := (n = true ∧ n' = true) ∨ (n ≠ n' ∧ mode = .rdn)
    exactly (m.add mode a b) (va.toRat + vb.toRat) ∧
      exactly (m.sub mode a b) (va.toRat - vb.toRat) ∧
      exactly (m.mul mode a b) (va.toRat * vb.toRat) ∧
      exactly (m.fma mode false false a b c) (va.toRat * vb.toRat + vc.toRat) ∧
      exactly (m.fma mode false true a b c) (va.toRat * vb.toRat - vc.toRat) ∧
      exactly (m.fma mode true false a b c) (-(va.toRat * vb.toRat) + vc.toRat) ∧
      exactly (m.fma mode true true a b c) (-(va.toRat * vb.toRat) - vc.toRat) ∧
      ((m.div mode a b).2 = noFlags → (∃ n k e, m.unpack (m.div mode a b).1 = .finite n k e) ∧
        (m.unpack (m.div mode a b).1).toRat * vb.toRat = va.toRat) ∧
      ((m.sqrt mode a).2 = noFlags → (∃ n k e, m.unpack (m.sqrt mode a).1 = .finite n k e) ∧
        0 ≤ (m.unpack (m.sqrt mode a).1).toRat ∧ (m.unpack (m.sqrt mode a).1).toRat ^ 2 = va.toRat) ∧
      (rounded (m.add mode a b) (va.toRat + vb.toRat) ∧ rounded (m.sub mode a b) (va.toRat - vb.toRat) ∧
        rounded (m.mul mode a b) (va.toRat * vb.toRat) ∧ rounded (m.div mode a b) (va.toRat / vb.toRat) ∧
        (0 < va.toRat → m.rounds mode (Real.sqrt (va.toRat : Real)) (m.sqrt mode a))) ∧
      ((va.toRat + vb.toRat = 0 → m.givesZero (m.add mode a b) (minus na nb)) ∧
        (va.toRat - vb.toRat = 0 → m.givesZero (m.sub mode a b) (minus na (!nb))) ∧
        (va.toRat * vb.toRat = 0 → m.givesZero (m.mul mode a b) (na ≠ nb)) ∧
        (va.toRat = 0 → vb.toRat ≠ 0 → m.givesZero (m.div mode a b) (na ≠ nb)) ∧
        (va.toRat = 0 → m.givesZero (m.sqrt mode a) (na = true)) ∧
        ∀ n1 n2 : Bool,
          (if n1 then -1 else 1) * (va.toRat * vb.toRat) + (if n2 then -1 else 1) * vc.toRat = 0 →
          m.givesZero (m.fma mode n1 n2 a b c) (minus (n1 != (na != nb)) (n2 != nc)))

/-! ### Floating point: conversions, comparisons and the rest -/

/-- R372, R386 to R397: conversions from integers round the signed or unsigned value of the low word, or
of the whole register on RV64, to the format. The result is finite; no flag but NX is raised, and NX
exactly where the result is not the integer; it is the integer rounded in the mode, so +0 for zero, and
exact for an integer of no more bits than the format's significand. -/
def Obligations.IntegersConvertToFloatingPoint : Prop :=
  (∀ (s : State) (rd rs1 : RegIdx) (rm : BitVec 3) (mode : Rounding), s.resolve rm = some mode →
    let done (i : Instr) (m : Fmt) (v : Int) := i.wellFormed s.cfg = true →
      completesF i 4 s m rd (m.fromInt mode v)
    (done (.fcvtSW rd rs1 rm) .s (s.sw rs1) ∧ done (.fcvtDW rd rs1 rm) .d (s.sw rs1) ∧
      done (.fcvtQW rd rs1 rm) .q (s.sw rs1)) ∧
    (done (.fcvtSWU rd rs1 rm) .s (s.ux rs1 % 2 ^ 32 : Nat) ∧
      done (.fcvtDWU rd rs1 rm) .d (s.ux rs1 % 2 ^ 32 : Nat) ∧
      done (.fcvtQWU rd rs1 rm) .q (s.ux rs1 % 2 ^ 32 : Nat)) ∧
    (done (.fcvtSL rd rs1 rm) .s (s.sx rs1) ∧ done (.fcvtDL rd rs1 rm) .d (s.sx rs1) ∧
      done (.fcvtQL rd rs1 rm) .q (s.sx rs1)) ∧
    (done (.fcvtSLU rd rs1 rm) .s (s.ux rs1) ∧ done (.fcvtDLU rd rs1 rm) .d (s.ux rs1) ∧
      done (.fcvtQLU rd rs1 rm) .q (s.ux rs1))) ∧
  (∀ (m : Fmt) (mode : Rounding) (v : Int), -(2 : Int) ^ 63 ≤ v → v < 2 ^ 64 →
    let r := m.fromInt mode v
    (r.2 = noFlags ∨ r.2 = flagNX) ∧ (r.2 = noFlags ↔ (m.unpack r.1).toRat = v) ∧
      (∃ neg k e, m.unpack r.1 = .finite neg k e ∧ (neg = true ↔ v < 0)) ∧
      (v ≠ 0 → m.rounds mode (v : Real) r) ∧ (v = 0 → m.givesZero r False) ∧
      (v.natAbs ≤ 2 ^ (m.fracBits + 1) → r.2 = noFlags))

/-- R372, R398 to R409: conversions to integers write the rounded value, or the saturated one with NV
for a NaN, an infinity or a value outside the range; a 32-bit result is sign-extended. -/
def Obligations.FloatingPointConvertsToIntegersSaturating : Prop :=
  (∀ (s : State) (rd rs1 : RegIdx) (rm : BitVec 3) (mode : Rounding), s.resolve rm = some mode →
    let done (i : Instr) (m : Fmt) (signed : Bool) (len : Nat) := i.wellFormed s.cfg = true →
      completesXF i s rd fun v fl =>
        xsigned s.cfg.xlen v = (m.toInt mode signed len (s.unbox m rs1)).1.bmod (2 ^ len) ∧
          fl = (m.toInt mode signed len (s.unbox m rs1)).2
    (done (.fcvtWS rd rs1 rm) .s true 32 ∧ done (.fcvtWD rd rs1 rm) .d true 32 ∧
      done (.fcvtWQ rd rs1 rm) .q true 32) ∧
    (done (.fcvtWUS rd rs1 rm) .s false 32 ∧ done (.fcvtWUD rd rs1 rm) .d false 32 ∧
      done (.fcvtWUQ rd rs1 rm) .q false 32) ∧
    (done (.fcvtLS rd rs1 rm) .s true 64 ∧ done (.fcvtLD rd rs1 rm) .d true 64 ∧
      done (.fcvtLQ rd rs1 rm) .q true 64) ∧
    (done (.fcvtLUS rd rs1 rm) .s false 64 ∧ done (.fcvtLUD rd rs1 rm) .d false 64 ∧
      done (.fcvtLUQ rd rs1 rm) .q false 64)) ∧
  (∀ (m : Fmt) (mode : Rounding) (signed : Bool) (len : Nat) (a : FWord), 0 < len →
    let low : Int := if signed then -(2 : Int) ^ (len - 1) else 0
    let high : Int := if signed then (2 : Int) ^ (len - 1) - 1 else (2 : Int) ^ len - 1
    let r := m.toInt mode signed len a
    (∀ sig, m.unpack a = .nan sig → r = (high, flagNV)) ∧
      (m.unpack a = .inf false → r = (high, flagNV)) ∧ (m.unpack a = .inf true → r = (low, flagNV)) ∧
      (∀ neg mant exp, m.unpack a = .finite neg mant exp →
        let rounded : Int := (if neg then -1 else 1) * ((roundAt mode neg mant exp 0).1 : Int)
        (rounded < low → r = (low, flagNV)) ∧ (high < rounded → r = (high, flagNV)) ∧
          (low ≤ rounded → rounded ≤ high →
            r.1 = rounded ∧ (r.2 = noFlags ∨ r.2 = flagNX) ∧
              (r.2 = noFlags ↔ ((rounded : Rat) = FVal.toRat (.finite neg mant exp))))))

/-- R372, R410 to R415: conversions between formats write the converted value, boxed in the target's
width; a NaN gives the target's canonical NaN, with NV where it is signaling; an infinity and a zero keep
their sign and raise no flag; any other value is rounded once to the target in the mode, with OF, UF and NX
as R421 gives them; widening a finite value is exact and raises no flag. -/
def Obligations.FormatsConvertIntoEachOther : Prop :=
  (∀ (s : State) (rd rs1 : RegIdx) (rm : BitVec 3) (mode : Rounding), s.resolve rm = some mode →
    let done (i : Instr) (src dst : Fmt) := i.wellFormed s.cfg = true →
      completesF i 4 s dst rd (src.convert dst mode (s.unbox src rs1))
    done (.fcvtSD rd rs1 rm) .d .s ∧ done (.fcvtDS rd rs1 rm) .s .d ∧ done (.fcvtSQ rd rs1 rm) .q .s ∧
      done (.fcvtQS rd rs1 rm) .s .q ∧ done (.fcvtDQ rd rs1 rm) .q .d ∧ done (.fcvtQD rd rs1 rm) .d .q) ∧
  (∀ (src dst : Fmt) (mode : Rounding) (a : FWord) (sig : Bool), src.unpack a = .nan sig →
    src.convert dst mode a = (dst.canonicalNaN, if sig then flagNV else noFlags)) ∧
  (∀ (src dst : Fmt) (mode : Rounding) (a : FWord),
    let r := src.convert dst mode a
    (∀ neg, src.unpack a = .inf neg → dst.givesInfinity r neg) ∧
      (∀ neg exp, src.unpack a = .finite neg 0 exp → dst.givesZero r (neg = true)) ∧
      (∀ neg mant exp, src.unpack a = .finite neg (mant + 1) exp →
        dst.rounds mode ((src.unpack a).toRat : Real) r)) ∧
  (∀ p ∈ [(Fmt.s, Fmt.d), (.s, .q), (.d, .q)], ∀ (mode : Rounding) (a : FWord) (neg : Bool) (mant : Nat)
      (exp : Int), p.1.unpack a = .finite neg mant exp →
    let r := p.1.convert p.2 mode a
    r.2 = noFlags ∧ FVal.toRat (p.2.unpack r.1) = FVal.toRat (.finite neg mant exp))

/-- R450 to R458: sign injection copies everything but the sign from `rs1`; the sign is `rs2`'s, its
opposite, or the exclusive or of both; no flag, even for signaling NaNs. -/
def Obligations.SignInjectionReplacesTheSign : Prop :=
  ∀ (s : State) (rd rs1 rs2 : RegIdx),
    let done (i : Instr) (m : Fmt) (sign : Bool → Bool → Bool) := i.wellFormed s.cfg = true →
      ∃ r, completesF i 4 s m rd (r, noFlags) ∧
        m.sign r = sign (m.sign (s.unbox m rs1)) (m.sign (s.unbox m rs2)) ∧
        ∀ k, k < m.width - 1 → r.getLsbD k = (s.unbox m rs1).getLsbD k
    (done (.fsgnjS rd rs1 rs2) .s (fun _ b => b) ∧ done (.fsgnjD rd rs1 rs2) .d (fun _ b => b) ∧
      done (.fsgnjQ rd rs1 rs2) .q (fun _ b => b)) ∧
    (done (.fsgnjnS rd rs1 rs2) .s (fun _ b => !b) ∧ done (.fsgnjnD rd rs1 rs2) .d (fun _ b => !b) ∧
      done (.fsgnjnQ rd rs1 rs2) .q (fun _ b => !b)) ∧
    (done (.fsgnjxS rd rs1 rs2) .s (fun a b => a != b) ∧ done (.fsgnjxD rd rs1 rs2) .d (fun a b => a != b) ∧
      done (.fsgnjxQ rd rs1 rs2) .q (fun a b => a != b))

/-- R485, R459 to R464: FMIN and FMAX by the table of the rule: two NaNs give the canonical NaN; one
quiet NaN the other operand; a signaling NaN beside a number the canonical NaN under `v20` and the
number under `v22`; -0 and +0 either one under `v20` and the ordered one under `v22`; otherwise the
smaller or larger value. NV exactly for a signaling NaN. -/
def Obligations.MinimumAndMaximumFollowTheirTable : Prop :=
  ∀ (s : State) (rd rs1 rs2 : RegIdx),
    let done (i : Instr) (m : Fmt) (isMax : Bool) := i.wellFormed s.cfg = true →
      let a := s.unbox m rs1
      let b := s.unbox m rs2
      let va := m.unpack a
      let vb := m.unpack b
      let signaling := va.isSignaling || vb.isSignaling
      ∃ r, completesF i 4 s m rd (r, if signaling then flagNV else noFlags) ∧
        (va.isNaN = true → vb.isNaN = true → r = m.canonicalNaN) ∧
        (signaling = true → s.cfg.fMinMax = .v20 → r = m.canonicalNaN) ∧
        (va.isNaN = true → vb.isNaN = false → va.isSignaling = false ∨ s.cfg.fMinMax = .v22 → r = b) ∧
        (vb.isNaN = true → va.isNaN = false → vb.isSignaling = false ∨ s.cfg.fMinMax = .v22 → r = a) ∧
        (va.isNaN = false → vb.isNaN = false →
          (m.orderKey a < m.orderKey b → r = if isMax then b else a) ∧
            (m.orderKey b < m.orderKey a → r = if isMax then a else b) ∧
            (m.orderKey a = m.orderKey b → (r = a ∨ r = b) ∧
              (s.cfg.fMinMax = .v22 → m.sign a ≠ m.sign b → m.sign r = !isMax)))
    (done (.fminS rd rs1 rs2) .s false ∧ done (.fminD rd rs1 rs2) .d false ∧
      done (.fminQ rd rs1 rs2) .q false) ∧
    (done (.fmaxS rd rs1 rs2) .s true ∧ done (.fmaxD rd rs1 rs2) .d true ∧
      done (.fmaxQ rd rs1 rs2) .q true)

/-- R465 to R473: the comparisons write 1 where neither operand is a NaN and the values compare so, else
0; FEQ raises NV for a signaling NaN only, FLT and FLE for any NaN. Finite values compare as the
numbers they stand for; an infinity is equal to itself, and below or above every other value. -/
def Obligations.FloatingPointComparisonsCompareValues : Prop :=
  ∀ (s : State) (rd rs1 rs2 : RegIdx),
    let done (i : Instr) (m : Fmt) (quiet : Bool) (rel : Rat → Rat → Prop) := i.wellFormed s.cfg = true →
      let va := m.unpack (s.unbox m rs1)
      let vb := m.unpack (s.unbox m rs2)
      let nan := va.isNaN || vb.isNaN
      let signaling := va.isSignaling || vb.isSignaling
      completesXF i s rd fun v fl =>
        (v = 0#64 ∨ v = 1#64) ∧ (nan = true → v = 0#64) ∧
          fl = (if (quiet && signaling) || (!quiet && nan) then flagNV else noFlags) ∧
          (∀ na ma ea nb mb eb, va = .finite na ma ea → vb = .finite nb mb eb →
            (v = 1#64 ↔ rel (FVal.toRat va) (FVal.toRat vb))) ∧
          (nan = false → (∃ n, va = .inf n) ∨ (∃ n, vb = .inf n) → (v = 1#64 ↔ rel va.side vb.side))
    (done (.feqS rd rs1 rs2) .s true (· = ·) ∧ done (.feqD rd rs1 rs2) .d true (· = ·) ∧
      done (.feqQ rd rs1 rs2) .q true (· = ·)) ∧
    (done (.fltS rd rs1 rs2) .s false (· < ·) ∧ done (.fltD rd rs1 rs2) .d false (· < ·) ∧
      done (.fltQ rd rs1 rs2) .q false (· < ·)) ∧
    (done (.fleS rd rs1 rs2) .s false (· ≤ ·) ∧ done (.fleD rd rs1 rs2) .d false (· ≤ ·) ∧
      done (.fleQ rd rs1 rs2) .q false (· ≤ ·))

/-- R474 to R476: FCLASS writes a mask with the one bit of its operand's class, and raises no flag. -/
def Obligations.ClassificationSetsOneBit : Prop :=
  ∀ (s : State) (rd rs1 : RegIdx),
    let done (i : Instr) (m : Fmt) := i.wellFormed s.cfg = true →
      let a := s.unbox m rs1
      completesXF i s rd fun v fl => fl = noFlags ∧ ∃ k, v.toNat = 2 ^ k ∧
        (m.unpack a = .inf true → k = 0) ∧ (m.unpack a = .inf false → k = 7) ∧
        (m.unpack a = .nan true → k = 8) ∧ (m.unpack a = .nan false → k = 9) ∧
        (∀ neg mant exp, m.unpack a = .finite neg mant exp →
          (mant = 0 → k = if neg then 3 else 4) ∧
            (0 < mant → mant < 2 ^ m.fracBits → k = if neg then 2 else 5) ∧
            (2 ^ m.fracBits ≤ mant → k = if neg then 1 else 6))
    done (.fclassS rd rs1) .s ∧ done (.fclassD rd rs1) .d ∧ done (.fclassQ rd rs1) .q

/-! ### Compressed instructions -/

/-- R250, R251: a compressed instruction that transfers no control has the outcome of its 32-bit
equivalent, exceptions among it, but for the pc, which moves by 2. -/
def Obligations.CompressedInstructionsRunAsTheirEquivalents : Prop :=
  ∀ (s : State) (rd rs2 : RegIdx) (r r' : RegIdx3) (u7 : BitVec 7) (u8 : BitVec 8) (u9 : BitVec 9)
      (u10 : BitVec 10) (imm : BitVec 6) (imm10 : BitVec 10) (shamt : BitVec 6),
    let x (q : RegIdx3) : RegIdx := BitVec.ofNat 5 (8 + q.toNat)
    let same (i j : Instr) := exec i s = twoBytesLong s (exec j s)
    same (.cLw r r' u7) (.lw (x r) (x r') (u7.setWidth 12)) ∧
      same (.cLwsp rd u8) (.lw rd 2#5 (u8.setWidth 12)) ∧
      same (.cLd r r' u8) (.ld (x r) (x r') (u8.setWidth 12)) ∧
      same (.cLdsp rd u9) (.ld rd 2#5 (u9.setWidth 12)) ∧
      same (.cSw r r' u7) (.sw (x r) (x r') (u7.setWidth 12)) ∧
      same (.cSwsp rs2 u8) (.sw 2#5 rs2 (u8.setWidth 12)) ∧
      same (.cSd r r' u8) (.sd (x r) (x r') (u8.setWidth 12)) ∧
      same (.cSdsp rs2 u9) (.sd 2#5 rs2 (u9.setWidth 12)) ∧
      same (.cFlw r r' u7) (.flw (x r) (x r') (u7.setWidth 12)) ∧
      same (.cFlwsp rd u8) (.flw rd 2#5 (u8.setWidth 12)) ∧
      same (.cFld r r' u8) (.fld (x r) (x r') (u8.setWidth 12)) ∧
      same (.cFldsp rd u9) (.fld rd 2#5 (u9.setWidth 12)) ∧
      same (.cFsw r r' u7) (.fsw (x r) (x r') (u7.setWidth 12)) ∧
      same (.cFswsp rs2 u8) (.fsw 2#5 rs2 (u8.setWidth 12)) ∧
      same (.cFsd r r' u8) (.fsd (x r) (x r') (u8.setWidth 12)) ∧
      same (.cFsdsp rs2 u9) (.fsd 2#5 rs2 (u9.setWidth 12)) ∧ same (.cAdd rd rs2) (.add rd rd rs2) ∧
      same (.cAddw r r') (.addw (x r) (x r) (x r')) ∧ same (.cAddi rd imm) (.addi rd rd (imm.signExtend 12)) ∧
      same .cNop (.addi 0#5 0#5 0#12) ∧ same (.cAddiw rd imm) (.addiw rd rd (imm.signExtend 12)) ∧
      same (.cAddi16sp imm10) (.addi 2#5 2#5 (imm10.signExtend 12)) ∧
      same (.cAddi4spn r u10) (.addi (x r) 2#5 (u10.setWidth 12)) ∧
      same (.cLi rd imm) (.addi rd 0#5 (imm.signExtend 12)) ∧
      same (.cLui rd imm) (.lui rd (imm.signExtend 20)) ∧ same (.cMv rd rs2) (.add rd 0#5 rs2) ∧
      same (.cSub r r') (.sub (x r) (x r) (x r')) ∧ same (.cSubw r r') (.subw (x r) (x r) (x r')) ∧
      same (.cSlli rd shamt) (.slli rd rd shamt) ∧ same (.cSrli r shamt) (.srli (x r) (x r) shamt) ∧
      same (.cSrai r shamt) (.srai (x r) (x r) shamt) ∧
      same (.cAndi r imm) (.andi (x r) (x r) (imm.signExtend 12)) ∧
      same (.cXor r r') (.xor (x r) (x r) (x r')) ∧ same (.cOr r r') (.or (x r) (x r) (x r')) ∧
      same (.cAnd r r') (.and (x r) (x r) (x r'))

/-- R250, R262 to R272, R280 to R287: the compressed register instructions complete, with the results of
their rules, two bytes further on. -/
def Obligations.CompressedArithmeticCompletes : Prop :=
  ∀ (s : State) (rd rs2 : RegIdx) (r r' : RegIdx3) (imm : BitVec 6) (imm10 u10 : BitVec 10)
      (shamt : BitVec 6),
    let x (q : RegIdx3) : RegIdx := BitVec.ofNat 5 (8 + q.toNat)
    let modulo (i : Instr) (d : RegIdx) (r : Int) := completesX i 2 s d (fun v => (v.toNat : Int) = r % s.modulus)
    let word (i : Instr) (d : RegIdx) (r : Int) := completesX i 2 s d (fun v => v.toInt = r.bmod (2 ^ 32))
    (modulo (.cAdd rd rs2) rd (s.ux rd + s.ux rs2) ∧ modulo (.cAddi rd imm) rd (s.ux rd + imm.toInt) ∧
      modulo (.cAddi16sp imm10) 2#5 (s.ux 2#5 + imm10.toInt) ∧
      modulo (.cAddi4spn r u10) (x r) (s.ux 2#5 + u10.toNat : Nat) ∧ modulo (.cLi rd imm) rd imm.toInt ∧
      modulo (.cLui rd imm) rd (imm.toInt * 4096) ∧ modulo (.cMv rd rs2) rd (s.ux rs2) ∧
      modulo (.cSub r r') (x r) ((s.ux (x r) : Int) - s.ux (x r')) ∧ modulo .cNop 0#5 0) ∧
    (s.cfg.xlen = .rv64 →
      word (.cAddw r r') (x r) (s.sw (x r) + s.sw (x r')) ∧ word (.cAddiw rd imm) rd (s.sw rd + imm.toInt) ∧
        word (.cSubw r r') (x r) (s.sw (x r) - s.sw (x r'))) ∧
    (shamt.toNat < s.cfg.xlen.bits →
      modulo (.cSlli rd shamt) rd (s.ux rd * 2 ^ shamt.toNat : Nat) ∧
        completesX (.cSrli r shamt) 2 s (x r) (fun v => v.toNat = s.ux (x r) / 2 ^ shamt.toNat) ∧
        completesX (.cSrai r shamt) 2 s (x r)
          (fun v => xsigned s.cfg.xlen v = s.sx (x r) / 2 ^ shamt.toNat)) ∧
    completesX (.cAndi r imm) 2 s (x r) (fun v => ∀ k, k < s.cfg.xlen.bits →
      v.getLsbD k = ((s.readX (x r)).getLsbD k && if k < 6 then imm.getLsbD k else imm.msb)) ∧
    completesX (.cXor r r') 2 s (x r) (fun v => ∀ k, k < s.cfg.xlen.bits →
      v.getLsbD k = ((s.readX (x r)).getLsbD k != (s.readX (x r')).getLsbD k)) ∧
    completesX (.cOr r r') 2 s (x r) (fun v => ∀ k, k < s.cfg.xlen.bits →
      v.getLsbD k = ((s.readX (x r)).getLsbD k || (s.readX (x r')).getLsbD k)) ∧
    completesX (.cAnd r r') 2 s (x r) (fun v => ∀ k, k < s.cfg.xlen.bits →
      v.getLsbD k = ((s.readX (x r)).getLsbD k && (s.readX (x r')).getLsbD k))

/-- R254 to R261, R288 to R295: the compressed loads and stores complete where their access does, at the
base register plus the unsigned offset modulo 2^`XLEN`. -/
def Obligations.CompressedAccessesComplete : Prop :=
  ∀ (s : State) (rd rs2 : RegIdx) (r r' : RegIdx3) (u7 : BitVec 7) (u8 : BitVec 8) (u9 : BitVec 9),
    s.mem.wf = true →
    let x (q : RegIdx3) : RegIdx := BitVec.ofNat 5 (8 + q.toNat)
    let near7 := BitVec.ofNat 64 ((s.ux (x r') + u7.toNat) % s.modulus)
    let near8 := BitVec.ofNat 64 ((s.ux (x r') + u8.toNat) % s.modulus)
    let store7 := BitVec.ofNat 64 ((s.ux (x r) + u7.toNat) % s.modulus)
    let store8 := BitVec.ofNat 64 ((s.ux (x r) + u8.toNat) % s.modulus)
    let stack8 := BitVec.ofNat 64 ((s.ux 2#5 + u8.toNat) % s.modulus)
    let stack9 := BitVec.ofNat 64 ((s.ux 2#5 + u9.toNat) % s.modulus)
    let load (i : Instr) (d : RegIdx) (a : Word) (n : Nat) := accessible s .read a n →
      completesX i 2 s d (fun v => xsigned s.cfg.xlen v = (s.readBytes a n : Int).bmod (2 ^ (8 * n)))
    let loadF (i : Instr) (m : Fmt) (d : RegIdx) (a : Word) := i.wellFormed s.cfg = true →
      accessible s .read a (m.width / 8) →
        completesF i 2 s m d (BitVec.ofNat 128 (s.readBytes a (m.width / 8)), noFlags)
    let store (i : Instr) (a : Word) (n v : Nat) := accessible s .write a n → completesStore i 2 s a n v
    let storeF (i : Instr) (m : Fmt) (a : Word) (q : RegIdx) := i.wellFormed s.cfg = true →
      accessible s .write a (m.width / 8) →
        completesStore i 2 s a (m.width / 8) ((s.readF q).toNat % 2 ^ m.width)
    (load (.cLw r r' u7) (x r) near7 4 ∧ load (.cLwsp rd u8) rd stack8 4 ∧
      store (.cSw r r' u7) store7 4 (s.ux (x r')) ∧ store (.cSwsp rs2 u8) stack8 4 (s.ux rs2)) ∧
    (s.cfg.xlen = .rv64 →
      load (.cLd r r' u8) (x r) near8 8 ∧ load (.cLdsp rd u9) rd stack9 8 ∧
        store (.cSd r r' u8) store8 8 (s.ux (x r')) ∧ store (.cSdsp rs2 u9) stack9 8 (s.ux rs2)) ∧
    (loadF (.cFlw r r' u7) .s (x r) near7 ∧ loadF (.cFlwsp rd u8) .s rd stack8 ∧
      loadF (.cFld r r' u8) .d (x r) near8 ∧ loadF (.cFldsp rd u9) .d rd stack9) ∧
    (storeF (.cFsw r r' u7) .s store7 (x r') ∧ storeF (.cFswsp rs2 u8) .s stack8 rs2 ∧
      storeF (.cFsd r r' u8) .d store8 (x r') ∧ storeF (.cFsdsp rs2 u9) .d stack9 rs2)

/-- R273 to R278, R250, R253: with C, the compressed branches and jumps go to their target, which is
always aligned; the links of C.JAL and C.JALR are `pc + 2` in `x1`. -/
def Obligations.CompressedTransfersGoToTheirTarget : Prop :=
  ∀ (s : State) (r : RegIdx3) (rs1 : RegIdx) (off : BitVec 9) (imm : BitVec 12),
    s.cfg.ext.c = true → s.pc.toNat % 2 = 0 → off.toNat % 2 = 0 → imm.toNat % 2 = 0 →
    let x (q : RegIdx3) : RegIdx := BitVec.ofNat 5 (8 + q.toNat)
    let next := xtrunc s.cfg.xlen (s.pc + 2#64)
    let branch (i : Instr) (taken : Prop) :=
      (taken → completesAt i s (s.pcRel off)) ∧ (¬ taken → completesAt i s next)
    let target := BitVec.ofNat 64 (s.ux rs1 - s.ux rs1 % 2)
    ((s.pcRel off).toNat : Int) = ((s.pc.toNat : Int) + off.toInt) % s.modulus ∧
      ((s.pcRel imm).toNat : Int) = ((s.pc.toNat : Int) + imm.toInt) % s.modulus ∧
      branch (.cBeqz r off) (s.ux (x r) = 0) ∧ branch (.cBnez r off) (s.ux (x r) ≠ 0) ∧
      completesAt (.cJ imm) s (s.pcRel imm) ∧ completesAt (.cJr rs1) s target ∧
      (∃ t, exec (.cJal imm) s = .next t ∧ linkedX (s.pcRel imm) 1#5 next s t) ∧
      (∃ t, exec (.cJalr rs1) s = .next t ∧ linkedX target 1#5 next s t)
end

