-- ==== Sys2Proof/Laws/Encoding.lean ====
section
/-! SUPPORT. The bits of a placed field, and the two lowest bits of every format of the encoder: what
a decoding proof cites instead of unfolding `place`. -/

namespace Sys2Proof

/-- Bit `j` of a placed field is bit `j - k` of the field, and zero below it. -/
@[simp] theorem getLsbD_place {n : Nat} (w k : Nat) (v : BitVec n) (j : Nat) :
    (place w k v).getLsbD j = (decide (j < w) && !decide (j < k) && v.getLsbD (j - k)) := by
  simp only [place, BitVec.getLsbD_shiftLeft, BitVec.getLsbD_setWidth]
  by_cases h : j < k <;> by_cases h' : j < w <;> simp [h, h']
  intro _
  omega

/-- The two lowest bits see nothing of a field placed at bit 2 or above. -/
theorem low_place_of_le {n : Nat} (w k : Nat) (v : BitVec n) (h : 2 ≤ k) :
    (place w k v).extractLsb' 0 2 = 0#2 := by
  apply BitVec.eq_of_getLsbD_eq
  intro j hj
  rw [BitVec.getLsbD_extractLsb', getLsbD_place, decide_eq_true (show 0 + j < k by omega)]
  simp

/-- The two lowest bits of a bitwise or. -/
theorem low_or {w : Nat} (a b : BitVec w) :
    (a ||| b).extractLsb' 0 2 = a.extractLsb' 0 2 ||| b.extractLsb' 0 2 := by
  apply BitVec.eq_of_getLsbD_eq
  intro j hj
  simp only [BitVec.getLsbD_extractLsb', BitVec.getLsbD_or, Bool.and_or_distrib_left]

theorem low_mkR (f : BitVec 7) (r2 r1 : RegIdx) (g : BitVec 3) (rd : RegIdx) (op : BitVec 7) :
    (mkR f r2 r1 g rd op).extractLsb' 0 2 = (place 32 0 op).extractLsb' 0 2 := by
  simp [mkR, low_or, low_place_of_le]

theorem low_mkAmo (f : BitVec 5) (aq rl : BitVec 1) (r2 r1 : RegIdx) (g : BitVec 3) (rd : RegIdx) :
    (mkAmo f aq rl r2 r1 g rd).extractLsb' 0 2 = 0b11#2 := by
  simp [mkAmo, low_or, low_place_of_le]; decide

theorem low_mkR4 (h : BitVec 5) (fmt : BitVec 2) (r2 r1 : RegIdx) (rm : BitVec 3) (rd : RegIdx)
    (op : BitVec 7) : (mkR4 h fmt r2 r1 rm rd op).extractLsb' 0 2 = (place 32 0 op).extractLsb' 0 2 := by
  simp [mkR4, low_or, low_place_of_le]

theorem low_mkI (imm : BitVec 12) (r1 : RegIdx) (g : BitVec 3) (rd : RegIdx) (op : BitVec 7) :
    (mkI imm r1 g rd op).extractLsb' 0 2 = (place 32 0 op).extractLsb' 0 2 := by
  simp [mkI, low_or, low_place_of_le]

theorem low_mkShift (f : BitVec 6) (shamt : BitVec 6) (r1 : RegIdx) (g : BitVec 3) (rd : RegIdx) :
    (mkShift f shamt r1 g rd).extractLsb' 0 2 = 0b11#2 := by
  simp [mkShift, low_or, low_place_of_le]; decide

theorem low_mkS (imm : BitVec 12) (r2 r1 : RegIdx) (g : BitVec 3) (op : BitVec 7) :
    (mkS imm r2 r1 g op).extractLsb' 0 2 = (place 32 0 op).extractLsb' 0 2 := by
  simp [mkS, low_or, low_place_of_le]

theorem low_mkB (imm : BitVec 13) (r2 r1 : RegIdx) (g : BitVec 3) :
    (mkB imm r2 r1 g).extractLsb' 0 2 = 0b11#2 := by
  simp [mkB, low_or, low_place_of_le]; decide

theorem low_mkU (imm : BitVec 20) (rd : RegIdx) (op : BitVec 7) :
    (mkU imm rd op).extractLsb' 0 2 = (place 32 0 op).extractLsb' 0 2 := by
  simp [mkU, low_or, low_place_of_le]

theorem low_mkJ (imm : BitVec 21) (rd : RegIdx) : (mkJ imm rd).extractLsb' 0 2 = 0b11#2 := by
  simp [mkJ, low_or, low_place_of_le]; decide

end Sys2Proof
end

