-- ==== Sys2Proof/Laws/State.lean ====
section
/-! SUPPORT. What each update of the state leaves alone, one lemma per field and update, and what it
changes: no later proof unfolds a record update. -/

namespace Sys2Proof.Machine

variable (s : State)

/-! ### `writeX` -/

@[simp] theorem State.writeX_cfg (r : RegIdx) (v : Word) : (s.writeX r v).cfg = s.cfg := by unfold State.writeX; split <;> rfl
@[simp] theorem State.writeX_pc (r : RegIdx) (v : Word) : (s.writeX r v).pc = s.pc := by unfold State.writeX; split <;> rfl
@[simp] theorem State.writeX_f (r : RegIdx) (v : Word) : (s.writeX r v).f = s.f := by unfold State.writeX; split <;> rfl
@[simp] theorem State.writeX_fcsr (r : RegIdx) (v : Word) : (s.writeX r v).fcsr = s.fcsr := by unfold State.writeX; split <;> rfl
@[simp] theorem State.writeX_instret (r : RegIdx) (v : Word) : (s.writeX r v).instret = s.instret := by unfold State.writeX; split <;> rfl
@[simp] theorem State.writeX_mem (r : RegIdx) (v : Word) : (s.writeX r v).mem = s.mem := by unfold State.writeX; split <;> rfl
@[simp] theorem State.writeX_reservation (r : RegIdx) (v : Word) : (s.writeX r v).reservation = s.reservation := by unfold State.writeX; split <;> rfl
@[simp] theorem State.writeX_stale (r : RegIdx) (v : Word) : (s.writeX r v).stale = s.stale := by unfold State.writeX; split <;> rfl
@[simp] theorem State.writeX_extraCsrs (r : RegIdx) (v : Word) : (s.writeX r v).extraCsrs = s.extraCsrs := by unfold State.writeX; split <;> rfl
@[simp] theorem State.writeX_cycleLast (r : RegIdx) (v : Word) : (s.writeX r v).cycleLast = s.cycleLast := by unfold State.writeX; split <;> rfl
@[simp] theorem State.writeX_timeLast (r : RegIdx) (v : Word) : (s.writeX r v).timeLast = s.timeLast := by unfold State.writeX; split <;> rfl
@[simp] theorem State.writeX_draws (r : RegIdx) (v : Word) : (s.writeX r v).draws = s.draws := by unfold State.writeX; split <;> rfl

/-! ### `writeF` -/

@[simp] theorem State.writeF_cfg (r : RegIdx) (v : FWord) : (s.writeF r v).cfg = s.cfg := rfl
@[simp] theorem State.writeF_x (r : RegIdx) (v : FWord) : (s.writeF r v).x = s.x := rfl
@[simp] theorem State.writeF_pc (r : RegIdx) (v : FWord) : (s.writeF r v).pc = s.pc := rfl
@[simp] theorem State.writeF_fcsr (r : RegIdx) (v : FWord) : (s.writeF r v).fcsr = s.fcsr := rfl
@[simp] theorem State.writeF_instret (r : RegIdx) (v : FWord) : (s.writeF r v).instret = s.instret := rfl
@[simp] theorem State.writeF_mem (r : RegIdx) (v : FWord) : (s.writeF r v).mem = s.mem := rfl
@[simp] theorem State.writeF_reservation (r : RegIdx) (v : FWord) : (s.writeF r v).reservation = s.reservation := rfl
@[simp] theorem State.writeF_stale (r : RegIdx) (v : FWord) : (s.writeF r v).stale = s.stale := rfl
@[simp] theorem State.writeF_extraCsrs (r : RegIdx) (v : FWord) : (s.writeF r v).extraCsrs = s.extraCsrs := rfl
@[simp] theorem State.writeF_cycleLast (r : RegIdx) (v : FWord) : (s.writeF r v).cycleLast = s.cycleLast := rfl
@[simp] theorem State.writeF_timeLast (r : RegIdx) (v : FWord) : (s.writeF r v).timeLast = s.timeLast := rfl
@[simp] theorem State.writeF_draws (r : RegIdx) (v : FWord) : (s.writeF r v).draws = s.draws := rfl

/-! ### `retire` -/

@[simp] theorem State.retire_cfg (n : Nat) : (s.retire n).cfg = s.cfg := rfl
@[simp] theorem State.retire_x (n : Nat) : (s.retire n).x = s.x := rfl
@[simp] theorem State.retire_f (n : Nat) : (s.retire n).f = s.f := rfl
@[simp] theorem State.retire_fcsr (n : Nat) : (s.retire n).fcsr = s.fcsr := rfl
@[simp] theorem State.retire_mem (n : Nat) : (s.retire n).mem = s.mem := rfl
@[simp] theorem State.retire_reservation (n : Nat) : (s.retire n).reservation = s.reservation := rfl
@[simp] theorem State.retire_stale (n : Nat) : (s.retire n).stale = s.stale := rfl
@[simp] theorem State.retire_extraCsrs (n : Nat) : (s.retire n).extraCsrs = s.extraCsrs := rfl
@[simp] theorem State.retire_cycleLast (n : Nat) : (s.retire n).cycleLast = s.cycleLast := rfl
@[simp] theorem State.retire_timeLast (n : Nat) : (s.retire n).timeLast = s.timeLast := rfl
@[simp] theorem State.retire_draws (n : Nat) : (s.retire n).draws = s.draws := rfl

/-! ### `retireTo` -/

@[simp] theorem State.retireTo_cfg (t : Word) : (s.retireTo t).cfg = s.cfg := rfl
@[simp] theorem State.retireTo_x (t : Word) : (s.retireTo t).x = s.x := rfl
@[simp] theorem State.retireTo_f (t : Word) : (s.retireTo t).f = s.f := rfl
@[simp] theorem State.retireTo_fcsr (t : Word) : (s.retireTo t).fcsr = s.fcsr := rfl
@[simp] theorem State.retireTo_mem (t : Word) : (s.retireTo t).mem = s.mem := rfl
@[simp] theorem State.retireTo_reservation (t : Word) : (s.retireTo t).reservation = s.reservation := rfl
@[simp] theorem State.retireTo_stale (t : Word) : (s.retireTo t).stale = s.stale := rfl
@[simp] theorem State.retireTo_extraCsrs (t : Word) : (s.retireTo t).extraCsrs = s.extraCsrs := rfl
@[simp] theorem State.retireTo_cycleLast (t : Word) : (s.retireTo t).cycleLast = s.cycleLast := rfl
@[simp] theorem State.retireTo_timeLast (t : Word) : (s.retireTo t).timeLast = s.timeLast := rfl
@[simp] theorem State.retireTo_draws (t : Word) : (s.retireTo t).draws = s.draws := rfl

/-! ### `accrue` -/

@[simp] theorem State.accrue_cfg (fl : FFlags) : (s.accrue fl).cfg = s.cfg := rfl
@[simp] theorem State.accrue_x (fl : FFlags) : (s.accrue fl).x = s.x := rfl
@[simp] theorem State.accrue_pc (fl : FFlags) : (s.accrue fl).pc = s.pc := rfl
@[simp] theorem State.accrue_f (fl : FFlags) : (s.accrue fl).f = s.f := rfl
@[simp] theorem State.accrue_instret (fl : FFlags) : (s.accrue fl).instret = s.instret := rfl
@[simp] theorem State.accrue_mem (fl : FFlags) : (s.accrue fl).mem = s.mem := rfl
@[simp] theorem State.accrue_reservation (fl : FFlags) : (s.accrue fl).reservation = s.reservation := rfl
@[simp] theorem State.accrue_stale (fl : FFlags) : (s.accrue fl).stale = s.stale := rfl
@[simp] theorem State.accrue_extraCsrs (fl : FFlags) : (s.accrue fl).extraCsrs = s.extraCsrs := rfl
@[simp] theorem State.accrue_cycleLast (fl : FFlags) : (s.accrue fl).cycleLast = s.cycleLast := rfl
@[simp] theorem State.accrue_timeLast (fl : FFlags) : (s.accrue fl).timeLast = s.timeLast := rfl
@[simp] theorem State.accrue_draws (fl : FFlags) : (s.accrue fl).draws = s.draws := rfl

/-! ### `writeByte` -/

@[simp] theorem State.writeByte_cfg (a : Nat) (b : Byte) : (s.writeByte a b).cfg = s.cfg := rfl
@[simp] theorem State.writeByte_x (a : Nat) (b : Byte) : (s.writeByte a b).x = s.x := rfl
@[simp] theorem State.writeByte_pc (a : Nat) (b : Byte) : (s.writeByte a b).pc = s.pc := rfl
@[simp] theorem State.writeByte_f (a : Nat) (b : Byte) : (s.writeByte a b).f = s.f := rfl
@[simp] theorem State.writeByte_fcsr (a : Nat) (b : Byte) : (s.writeByte a b).fcsr = s.fcsr := rfl
@[simp] theorem State.writeByte_instret (a : Nat) (b : Byte) : (s.writeByte a b).instret = s.instret := rfl
@[simp] theorem State.writeByte_reservation (a : Nat) (b : Byte) : (s.writeByte a b).reservation = s.reservation := rfl
@[simp] theorem State.writeByte_extraCsrs (a : Nat) (b : Byte) : (s.writeByte a b).extraCsrs = s.extraCsrs := rfl
@[simp] theorem State.writeByte_cycleLast (a : Nat) (b : Byte) : (s.writeByte a b).cycleLast = s.cycleLast := rfl
@[simp] theorem State.writeByte_timeLast (a : Nat) (b : Byte) : (s.writeByte a b).timeLast = s.timeLast := rfl
@[simp] theorem State.writeByte_draws (a : Nat) (b : Byte) : (s.writeByte a b).draws = s.draws := rfl

/-! ### `drawCycle` -/

@[simp] theorem State.drawCycle_cfg : (s.drawCycle).cfg = s.cfg := rfl
@[simp] theorem State.drawCycle_x : (s.drawCycle).x = s.x := rfl
@[simp] theorem State.drawCycle_pc : (s.drawCycle).pc = s.pc := rfl
@[simp] theorem State.drawCycle_f : (s.drawCycle).f = s.f := rfl
@[simp] theorem State.drawCycle_fcsr : (s.drawCycle).fcsr = s.fcsr := rfl
@[simp] theorem State.drawCycle_instret : (s.drawCycle).instret = s.instret := rfl
@[simp] theorem State.drawCycle_mem : (s.drawCycle).mem = s.mem := rfl
@[simp] theorem State.drawCycle_reservation : (s.drawCycle).reservation = s.reservation := rfl
@[simp] theorem State.drawCycle_stale : (s.drawCycle).stale = s.stale := rfl
@[simp] theorem State.drawCycle_extraCsrs : (s.drawCycle).extraCsrs = s.extraCsrs := rfl
@[simp] theorem State.drawCycle_timeLast : (s.drawCycle).timeLast = s.timeLast := rfl

/-! ### `drawTime` -/

@[simp] theorem State.drawTime_cfg : (s.drawTime).cfg = s.cfg := rfl
@[simp] theorem State.drawTime_x : (s.drawTime).x = s.x := rfl
@[simp] theorem State.drawTime_pc : (s.drawTime).pc = s.pc := rfl
@[simp] theorem State.drawTime_f : (s.drawTime).f = s.f := rfl
@[simp] theorem State.drawTime_fcsr : (s.drawTime).fcsr = s.fcsr := rfl
@[simp] theorem State.drawTime_instret : (s.drawTime).instret = s.instret := rfl
@[simp] theorem State.drawTime_mem : (s.drawTime).mem = s.mem := rfl
@[simp] theorem State.drawTime_reservation : (s.drawTime).reservation = s.reservation := rfl
@[simp] theorem State.drawTime_stale : (s.drawTime).stale = s.stale := rfl
@[simp] theorem State.drawTime_extraCsrs : (s.drawTime).extraCsrs = s.extraCsrs := rfl
@[simp] theorem State.drawTime_cycleLast : (s.drawTime).cycleLast = s.cycleLast := rfl

/-! ### `writeBoxed` -/

@[simp] theorem State.writeBoxed_cfg (m : Fmt) (r : RegIdx) (v : FWord) : (s.writeBoxed m r v).cfg = s.cfg := rfl
@[simp] theorem State.writeBoxed_x (m : Fmt) (r : RegIdx) (v : FWord) : (s.writeBoxed m r v).x = s.x := rfl
@[simp] theorem State.writeBoxed_pc (m : Fmt) (r : RegIdx) (v : FWord) : (s.writeBoxed m r v).pc = s.pc := rfl
@[simp] theorem State.writeBoxed_fcsr (m : Fmt) (r : RegIdx) (v : FWord) : (s.writeBoxed m r v).fcsr = s.fcsr := rfl
@[simp] theorem State.writeBoxed_instret (m : Fmt) (r : RegIdx) (v : FWord) : (s.writeBoxed m r v).instret = s.instret := rfl
@[simp] theorem State.writeBoxed_mem (m : Fmt) (r : RegIdx) (v : FWord) : (s.writeBoxed m r v).mem = s.mem := rfl
@[simp] theorem State.writeBoxed_reservation (m : Fmt) (r : RegIdx) (v : FWord) : (s.writeBoxed m r v).reservation = s.reservation := rfl
@[simp] theorem State.writeBoxed_stale (m : Fmt) (r : RegIdx) (v : FWord) : (s.writeBoxed m r v).stale = s.stale := rfl
@[simp] theorem State.writeBoxed_extraCsrs (m : Fmt) (r : RegIdx) (v : FWord) : (s.writeBoxed m r v).extraCsrs = s.extraCsrs := rfl
@[simp] theorem State.writeBoxed_cycleLast (m : Fmt) (r : RegIdx) (v : FWord) : (s.writeBoxed m r v).cycleLast = s.cycleLast := rfl
@[simp] theorem State.writeBoxed_timeLast (m : Fmt) (r : RegIdx) (v : FWord) : (s.writeBoxed m r v).timeLast = s.timeLast := rfl

/-! ### `csrWrite` -/

@[simp] theorem State.csrWrite_cfg (c : Csr) (v : Word) : (s.csrWrite c v).cfg = s.cfg := by cases c <;> rfl
@[simp] theorem State.csrWrite_x (c : Csr) (v : Word) : (s.csrWrite c v).x = s.x := by cases c <;> rfl
@[simp] theorem State.csrWrite_pc (c : Csr) (v : Word) : (s.csrWrite c v).pc = s.pc := by cases c <;> rfl
@[simp] theorem State.csrWrite_f (c : Csr) (v : Word) : (s.csrWrite c v).f = s.f := by cases c <;> rfl
@[simp] theorem State.csrWrite_instret (c : Csr) (v : Word) : (s.csrWrite c v).instret = s.instret := by cases c <;> rfl
@[simp] theorem State.csrWrite_mem (c : Csr) (v : Word) : (s.csrWrite c v).mem = s.mem := by cases c <;> rfl
@[simp] theorem State.csrWrite_reservation (c : Csr) (v : Word) : (s.csrWrite c v).reservation = s.reservation := by cases c <;> rfl
@[simp] theorem State.csrWrite_stale (c : Csr) (v : Word) : (s.csrWrite c v).stale = s.stale := by cases c <;> rfl
@[simp] theorem State.csrWrite_cycleLast (c : Csr) (v : Word) : (s.csrWrite c v).cycleLast = s.cycleLast := by cases c <;> rfl
@[simp] theorem State.csrWrite_timeLast (c : Csr) (v : Word) : (s.csrWrite c v).timeLast = s.timeLast := by cases c <;> rfl
@[simp] theorem State.csrWrite_draws (c : Csr) (v : Word) : (s.csrWrite c v).draws = s.draws := by cases c <;> rfl

/-! ### What the updates change -/

@[simp] theorem State.writeF_f (r : RegIdx) (v : FWord) :
    (s.writeF r v).f = s.f.set r.toNat (ftrunc s.cfg.flen v) r.isLt := rfl

theorem State.writeX_zero (v : Word) : s.writeX 0#5 v = s := by simp [State.writeX]

theorem State.writeX_x {r : RegIdx} (h : r ≠ 0#5) (v : Word) :
    (s.writeX r v).x = s.x.set r.toNat (xtrunc s.cfg.xlen v) r.isLt := by simp [State.writeX, h]

@[simp] theorem State.retire_pc (n : Nat) :
    (s.retire n).pc = xtrunc s.cfg.xlen (s.pc + BitVec.ofNat 64 n) := rfl

@[simp] theorem State.retire_instret (n : Nat) : (s.retire n).instret = s.instret + 1#64 := rfl

@[simp] theorem State.retireTo_pc (t : Word) : (s.retireTo t).pc = xtrunc s.cfg.xlen t := rfl

@[simp] theorem State.retireTo_instret (t : Word) : (s.retireTo t).instret = s.instret + 1#64 := rfl

@[simp] theorem State.accrue_fcsr (fl : FFlags) :
    (s.accrue fl).fcsr = fcsrOf s.frm (s.fflags ||| fl) := rfl

@[simp] theorem State.writeByte_mem (a : Nat) (b : Byte) : (s.writeByte a b).mem = s.mem.write a b := rfl

@[simp] theorem State.writeByte_stale (a : Nat) (b : Byte) :
    (s.writeByte a b).stale = staleInsert a s.stale := rfl

@[simp] theorem State.drawCycle_cycleLast : s.drawCycle.cycleLast = s.nextCycle := rfl

@[simp] theorem State.drawCycle_draws : s.drawCycle.draws = s.draws + 1 := rfl

@[simp] theorem State.drawTime_timeLast : s.drawTime.timeLast = s.nextTime := rfl

@[simp] theorem State.drawTime_draws : s.drawTime.draws = s.draws + 1 := rfl

@[simp] theorem State.writeBoxed_f (m : Fmt) (r : RegIdx) (v : FWord) :
    (s.writeBoxed m r v).f = s.f.set r.toNat (ftrunc s.cfg.flen (s.box m v)) r.isLt := rfl

@[simp] theorem State.writeBoxed_draws (m : Fmt) (r : RegIdx) (v : FWord) :
    (s.writeBoxed m r v).draws = s.draws + 1 := rfl

/-! ### `writeBytes` -/

@[simp] theorem State.writeBytes_cfg (a : Word) (v n : Nat) : (s.writeBytes a v n).cfg = s.cfg := by
  induction n with
  | zero => rfl
  | succ n ih => simpa [State.writeBytes] using ih

@[simp] theorem State.writeBytes_x (a : Word) (v n : Nat) : (s.writeBytes a v n).x = s.x := by
  induction n with
  | zero => rfl
  | succ n ih => simpa [State.writeBytes] using ih

@[simp] theorem State.writeBytes_pc (a : Word) (v n : Nat) : (s.writeBytes a v n).pc = s.pc := by
  induction n with
  | zero => rfl
  | succ n ih => simpa [State.writeBytes] using ih

@[simp] theorem State.writeBytes_f (a : Word) (v n : Nat) : (s.writeBytes a v n).f = s.f := by
  induction n with
  | zero => rfl
  | succ n ih => simpa [State.writeBytes] using ih

@[simp] theorem State.writeBytes_fcsr (a : Word) (v n : Nat) : (s.writeBytes a v n).fcsr = s.fcsr := by
  induction n with
  | zero => rfl
  | succ n ih => simpa [State.writeBytes] using ih

@[simp] theorem State.writeBytes_instret (a : Word) (v n : Nat) : (s.writeBytes a v n).instret = s.instret := by
  induction n with
  | zero => rfl
  | succ n ih => simpa [State.writeBytes] using ih

@[simp] theorem State.writeBytes_reservation (a : Word) (v n : Nat) : (s.writeBytes a v n).reservation = s.reservation := by
  induction n with
  | zero => rfl
  | succ n ih => simpa [State.writeBytes] using ih

@[simp] theorem State.writeBytes_extraCsrs (a : Word) (v n : Nat) : (s.writeBytes a v n).extraCsrs = s.extraCsrs := by
  induction n with
  | zero => rfl
  | succ n ih => simpa [State.writeBytes] using ih

@[simp] theorem State.writeBytes_cycleLast (a : Word) (v n : Nat) : (s.writeBytes a v n).cycleLast = s.cycleLast := by
  induction n with
  | zero => rfl
  | succ n ih => simpa [State.writeBytes] using ih

@[simp] theorem State.writeBytes_timeLast (a : Word) (v n : Nat) : (s.writeBytes a v n).timeLast = s.timeLast := by
  induction n with
  | zero => rfl
  | succ n ih => simpa [State.writeBytes] using ih

@[simp] theorem State.writeBytes_draws (a : Word) (v n : Nat) : (s.writeBytes a v n).draws = s.draws := by
  induction n with
  | zero => rfl
  | succ n ih => simpa [State.writeBytes] using ih

/-! ### Reading registers after updates -/

@[simp] theorem State.readX_zero : s.readX 0#5 = 0#64 := by simp [State.readX]

/-- A register reads alike in two states with the same registers and parameters. -/
theorem State.readX_congr {s t : State} (hx : t.x = s.x) (hc : t.cfg = s.cfg) (r : RegIdx) :
    t.readX r = s.readX r := by simp [State.readX, hx, hc]

theorem State.readF_congr {s t : State} (hf : t.f = s.f) (hc : t.cfg = s.cfg) (r : RegIdx) :
    t.readF r = s.readF r := by simp [State.readF, hf, hc]

@[simp] theorem xtrunc_xtrunc (x : Xlen) (v : Word) : xtrunc x (xtrunc x v) = xtrunc x v := by
  cases x <;> simp [xtrunc]

@[simp] theorem ftrunc_ftrunc (n : Nat) (v : FWord) : ftrunc n (ftrunc n v) = ftrunc n v := by
  apply BitVec.eq_of_toNat_eq
  simp only [ftrunc, BitVec.toNat_setWidth]
  have h1 : v.toNat % 2 ^ n % 2 ^ 128 < 2 ^ 128 := Nat.mod_lt _ (by decide)
  have h2 : v.toNat % 2 ^ n % 2 ^ 128 ≤ v.toNat % 2 ^ n := Nat.mod_le _ _
  have h3 : v.toNat % 2 ^ n < 2 ^ n := Nat.mod_lt _ (Nat.two_pow_pos n)
  rw [Nat.mod_eq_of_lt (Nat.lt_of_le_of_lt h2 h3), Nat.mod_mod]

/-- Writing a register other than `x0`, then reading it. -/
theorem State.readX_writeX_same {r : RegIdx} (h : r ≠ 0#5) (v : Word) :
    (s.writeX r v).readX r = xtrunc s.cfg.xlen v := by
  simp [State.readX, h, State.writeX_x]

/-- Writing one register leaves the others. -/
theorem State.readX_writeX_other {r r' : RegIdx} (h : r' ≠ r) (v : Word) :
    (s.writeX r v).readX r' = s.readX r' := by
  by_cases hr : r = 0#5
  · rw [hr, State.writeX_zero]
  · have hn : r.toNat ≠ r'.toNat := fun e => h (BitVec.eq_of_toNat_eq e.symm)
    simp [State.readX, State.writeX_x, hr, Vector.getElem_set_ne, hn]

/-- Writing an f register, then reading it. -/
theorem State.readF_writeF_same (r : RegIdx) (v : FWord) :
    (s.writeF r v).readF r = ftrunc s.cfg.flen v := by
  simp [State.readF]

/-- Writing one f register leaves the others. -/
theorem State.readF_writeF_other {r r' : RegIdx} (h : r' ≠ r) (v : FWord) :
    (s.writeF r v).readF r' = s.readF r' := by
  have hn : r.toNat ≠ r'.toNat := fun e => h (BitVec.eq_of_toNat_eq e.symm)
  simp [State.readF, Vector.getElem_set_ne, hn]

@[simp] theorem State.readX_retire (n : Nat) (r : RegIdx) : (s.retire n).readX r = s.readX r := rfl

@[simp] theorem State.readX_retireTo (t : Word) (r : RegIdx) : (s.retireTo t).readX r = s.readX r := rfl

@[simp] theorem State.readF_retire (n : Nat) (r : RegIdx) : (s.retire n).readF r = s.readF r := rfl

@[simp] theorem State.readX_accrue (fl : FFlags) (r : RegIdx) : (s.accrue fl).readX r = s.readX r := rfl

@[simp] theorem State.readF_accrue (fl : FFlags) (r : RegIdx) : (s.accrue fl).readF r = s.readF r := rfl

@[simp] theorem State.readX_writeBytes (a : Word) (v n : Nat) (r : RegIdx) :
    (s.writeBytes a v n).readX r = s.readX r := State.readX_congr (by simp) (by simp) r

@[simp] theorem State.readF_writeBytes (a : Word) (v n : Nat) (r : RegIdx) :
    (s.writeBytes a v n).readF r = s.readF r := State.readF_congr (by simp) (by simp) r

end Sys2Proof.Machine
end

