-- ==== Sys2Proof/Laws/Memory.lean ====
section
/-! SUPPORT. Laws of memory: what reading gives after writing, and that every memory operation keeps
the canonical form. -/

namespace Sys2Proof.Machine

/-! ### One byte -/

@[simp] theorem Memory.read_nil (k : Nat) : Memory.read [] k = Memory.unlisted := rfl

theorem Memory.read_cons (a : Nat) (b : Byte) (rest : Memory) (k : Nat) :
    Memory.read ((a, b) :: rest) k = if a = k then b else Memory.read rest k := rfl

theorem Memory.wfFrom_cons (lo a : Nat) (b : Byte) (rest : Memory) :
    Memory.wfFrom lo ((a, b) :: rest) = true ↔
      lo ≤ a ∧ b ≠ Memory.unlisted ∧ Memory.wfFrom (a + 1) rest = true := by
  simp [Memory.wfFrom, and_assoc]

theorem Memory.wfFrom_mono {lo lo' : Nat} (h : lo' ≤ lo) {m : Memory} (hm : m.wfFrom lo = true) :
    m.wfFrom lo' = true := by
  cases m with
  | nil => rfl
  | cons c rest =>
    obtain ⟨a, b⟩ := c
    rw [Memory.wfFrom_cons] at hm ⊢
    exact ⟨h.trans hm.1, hm.2⟩

/-- Below its first address, a memory in canonical form lists nothing. -/
theorem Memory.read_below {lo k : Nat} (h : k < lo) {m : Memory} (hm : m.wfFrom lo = true) :
    m.read k = Memory.unlisted := by
  induction m generalizing lo with
  | nil => rfl
  | cons c rest ih =>
    obtain ⟨a, b⟩ := c
    rw [Memory.wfFrom_cons] at hm
    rw [Memory.read_cons, if_neg (by omega)]
    exact ih (by omega) hm.2.2

/-- A write leaves every other address alone. -/
theorem Memory.read_write_other {k k' : Nat} (h : k' ≠ k) (m : Memory) (v : Byte) :
    (m.write k v).read k' = m.read k' := by
  induction m with
  | nil =>
    simp only [Memory.write]
    split
    · rfl
    · rw [Memory.read_cons, if_neg (Ne.symm h)]
  | cons c rest ih =>
    obtain ⟨a, b⟩ := c
    simp only [Memory.write]
    split
    · split
      · rfl
      · rw [Memory.read_cons k, if_neg (Ne.symm h)]
    · split
      · rename_i he
        subst he
        split
        · rw [Memory.read_cons, if_neg (Ne.symm h)]
        · rw [Memory.read_cons, Memory.read_cons, if_neg (Ne.symm h), if_neg (Ne.symm h)]
      · rw [Memory.read_cons, Memory.read_cons, ih]

/-- A read after a write to the same address gives the value written. -/
theorem Memory.read_write_same {lo : Nat} {m : Memory} (hm : m.wfFrom lo = true) (k : Nat) (v : Byte) :
    (m.write k v).read k = v := by
  induction m generalizing lo with
  | nil =>
    simp only [Memory.write]
    split
    · rename_i h; rw [h]; rfl
    · rw [Memory.read_cons, if_pos rfl]
  | cons c rest ih =>
    obtain ⟨a, b⟩ := c
    have hc := (Memory.wfFrom_cons _ _ _ _).1 hm
    simp only [Memory.write]
    split
    · split
      · rename_i hk hv
        rw [Memory.read_cons, if_neg (by omega), Memory.read_below (by omega) hc.2.2, hv]
      · rw [Memory.read_cons, if_pos rfl]
    · split
      · rename_i he
        subst he
        split
        · rename_i hv
          rw [Memory.read_below (Nat.lt_succ_self k) hc.2.2, hv]
        · rw [Memory.read_cons, if_pos rfl]
      · rw [Memory.read_cons, if_neg (by omega), ih hc.2.2]

/-- A write keeps the canonical form. -/
theorem Memory.wfFrom_write {lo : Nat} {m : Memory} (hm : m.wfFrom lo = true) (k : Nat) (v : Byte) :
    (m.write k v).wfFrom (min lo k) = true := by
  induction m generalizing lo with
  | nil =>
    simp only [Memory.write]
    split
    · rfl
    · rw [Memory.wfFrom_cons]; exact ⟨Nat.min_le_right _ _, by assumption, rfl⟩
  | cons c rest ih =>
    obtain ⟨a, b⟩ := c
    have hc := (Memory.wfFrom_cons _ _ _ _).1 hm
    simp only [Memory.write]
    split
    · split
      · exact Memory.wfFrom_mono (Nat.min_le_left _ _) hm
      · rw [Memory.wfFrom_cons, Memory.wfFrom_cons]
        exact ⟨Nat.min_le_right _ _, by assumption, by omega, hc.2⟩
    · split
      · rename_i he
        subst he
        split
        · exact Memory.wfFrom_mono (by omega) hc.2.2
        · rw [Memory.wfFrom_cons]
          exact ⟨Nat.min_le_right _ _, by assumption, hc.2.2⟩
      · rw [Memory.wfFrom_cons]
        exact ⟨by omega, hc.2.1, Memory.wfFrom_mono (by omega) (ih hc.2.2)⟩

/-- Memory stays in canonical form. -/
theorem Memory.wf_write {m : Memory} (hm : m.wf = true) (k : Nat) (v : Byte) :
    (m.write k v).wf = true := Memory.wfFrom_mono (Nat.zero_le _) (Memory.wfFrom_write hm k v)

/-- The addresses memory lists after a write: the one written, and those it listed. -/
theorem Memory.mem_write {m : Memory} {k : Nat} {v : Byte} {c : Host.Cell} (h : c ∈ m.write k v) :
    c.1 = k ∨ c ∈ m := by
  induction m with
  | nil =>
    simp only [Memory.write] at h
    split at h
    · cases h
    · simp at h; exact .inl (by rw [h])
  | cons d rest ih =>
    obtain ⟨a, b⟩ := d
    simp only [Memory.write] at h
    split at h
    · split at h
      · exact .inr h
      · rcases List.mem_cons.1 h with rfl | h
        · exact .inl rfl
        · exact .inr h
    · split at h
      · split at h
        · exact .inr (List.mem_cons_of_mem _ h)
        · rcases List.mem_cons.1 h with rfl | h
          · exact .inl rfl
          · exact .inr (List.mem_cons_of_mem _ h)
      · rcases List.mem_cons.1 h with rfl | h
        · exact .inr List.mem_cons_self
        · rcases ih h with h | h
          · exact .inl h
          · exact .inr (List.mem_cons_of_mem _ h)

/-! ### The stale set -/

theorem mem_staleInsert {k a : Nat} {l : List Nat} : a ∈ staleInsert k l ↔ a = k ∨ a ∈ l := by
  induction l with
  | nil => simp [staleInsert]
  | cons b rest ih =>
    simp only [staleInsert]
    split
    · simp
    · split
      · rename_i h; simp [h]
      · simp only [List.mem_cons, ih]; tauto

theorem risingFrom_mono {lo lo' : Nat} (h : lo' ≤ lo) {l : List Nat} (hl : risingFrom lo l = true) :
    risingFrom lo' l = true := by
  cases l with
  | nil => rfl
  | cons a rest =>
    simp only [risingFrom, Bool.and_eq_true, decide_eq_true_eq] at hl ⊢
    exact ⟨h.trans hl.1, hl.2⟩

/-- The stale set stays strictly rising. -/
theorem risingFrom_staleInsert {lo : Nat} {l : List Nat} (hl : risingFrom lo l = true) (k : Nat) :
    risingFrom (min lo k) (staleInsert k l) = true := by
  induction l generalizing lo with
  | nil => simp [staleInsert, risingFrom]
  | cons a rest ih =>
    have hc := hl
    simp only [risingFrom, Bool.and_eq_true, decide_eq_true_eq] at hc
    simp only [staleInsert]
    split
    · simp only [risingFrom, Bool.and_eq_true, decide_eq_true_eq]
      exact ⟨Nat.min_le_right _ _, by omega, hc.2⟩
    · split
      · exact risingFrom_mono (Nat.min_le_left _ _) hl
      · simp only [risingFrom, Bool.and_eq_true, decide_eq_true_eq]
        exact ⟨by omega, risingFrom_mono (by omega) (ih hc.2)⟩

/-! ### Several bytes -/

theorem xtrunc_lt (x : Xlen) (v : Word) : (xtrunc x v).toNat < 2 ^ x.bits := by
  cases x
  · simp only [xtrunc, Xlen.bits, BitVec.toNat_setWidth]; omega
  · exact v.isLt

/-- The address of a byte is an address of `XLEN` bits. -/
theorem byteAddr_lt (x : Xlen) (a : Word) (k : Nat) : byteAddr x a k < 2 ^ x.bits := xtrunc_lt x _

theorem byteAddr_eq (x : Xlen) (a : Word) (k : Nat) :
    byteAddr x a k = (a.toNat + k) % 2 ^ x.bits := by
  cases x <;> simp only [byteAddr, xtrunc, Xlen.bits, BitVec.toNat_setWidth, BitVec.toNat_add,
    BitVec.toNat_ofNat] <;> omega

/-- The bytes of one access have different addresses. -/
theorem byteAddr_ne (x : Xlen) (a : Word) {j k : Nat} (hj : j < 2 ^ 32) (hk : k < 2 ^ 32) (h : j ≠ k) :
    byteAddr x a j ≠ byteAddr x a k := by
  rw [byteAddr_eq, byteAddr_eq]
  cases x <;> simp only [Xlen.bits] <;> omega

/-- A store leaves every byte outside its own alone. -/
theorem State.readByte_writeBytes_other (s : State) (a : Word) (v n k : Nat)
    (h : ∀ i, i < n → byteAddr s.cfg.xlen a i ≠ k) : (s.writeBytes a v n).readByte k = s.readByte k := by
  induction n with
  | zero => rfl
  | succ n ih =>
    have h1 := ih fun i hi => h i (Nat.lt_succ_of_lt hi)
    simp only [State.readByte, State.writeBytes, State.writeByte_mem] at h1 ⊢
    rw [Memory.read_write_other (Ne.symm (h n (Nat.lt_succ_self n))), h1]

/-- A store keeps memory in canonical form. -/
theorem State.wf_writeBytes {s : State} (hs : s.mem.wf = true) (a : Word) (v n : Nat) :
    (s.writeBytes a v n).mem.wf = true := by
  induction n with
  | zero => exact hs
  | succ n ih => exact Memory.wf_write ih _ _

/-- Each byte stored reads back. -/
theorem State.readByte_writeBytes_same {s : State} (hs : s.mem.wf = true) (a : Word) (v : Nat) {n i : Nat}
    (hn : n ≤ 2 ^ 32) (hi : i < n) :
    (s.writeBytes a v n).readByte (byteAddr s.cfg.xlen a i) = BitVec.ofNat 8 (v / 2 ^ (8 * i)) := by
  induction n with
  | zero => omega
  | succ n ih =>
    simp only [State.writeBytes, State.readByte, State.writeByte_mem]
    by_cases h : i = n
    · subst h
      exact Memory.read_write_same (State.wf_writeBytes hs a v i) _ _
    · rw [Memory.read_write_other (byteAddr_ne _ _ (by omega) (by omega) h)]
      exact ih (by omega) (by omega)

/-- The stale set after a store: what was stale, and the bytes stored. -/
theorem State.mem_stale_writeBytes (s : State) (a : Word) (v n k : Nat) :
    k ∈ (s.writeBytes a v n).stale ↔ storedAt s.cfg.xlen a n k ∨ k ∈ s.stale := by
  induction n with
  | zero => simp [storedAt, State.writeBytes]
  | succ n ih =>
    simp only [State.writeBytes, State.writeByte_stale, mem_staleInsert, ih, storedAt]
    constructor
    · rintro (h | ⟨i, hi, h⟩ | h)
      · exact .inl ⟨n, by omega, h.symm⟩
      · exact .inl ⟨i, by omega, h⟩
      · exact .inr h
    · rintro (⟨i, hi, h⟩ | h)
      · rcases Nat.lt_succ_iff_lt_or_eq.1 hi with hi | rfl
        · exact .inr (.inl ⟨i, hi, h⟩)
        · exact .inl h.symm
      · exact .inr (.inr h)

/-- Memory right after reset is in canonical form. -/
theorem State.wf_reset : State.reset.mem.wf = true := rfl

end Sys2Proof.Machine
end

