-- ==== Sys2Proof/Laws/Ops.lean ====
section
/-! SUPPORT. One lemma per shared operation that says what it does, in the words of Safety.lean, so that
no proof about an instruction unfolds the operation. -/

namespace Sys2Proof.Machine

/-! ### Values -/

theorem xtrunc_toNat (x : Xlen) (v : Word) : (xtrunc x v).toNat = v.toNat % 2 ^ x.bits := by
  cases x
  · simp only [xtrunc, Xlen.bits, BitVec.toNat_setWidth]; omega
  · simp only [xtrunc, Xlen.bits]; exact (Nat.mod_eq_of_lt v.isLt).symm

theorem xunsigned_eq (x : Xlen) (v : Word) : xunsigned x v = v.toNat % 2 ^ x.bits := xtrunc_toNat x v

theorem State.readX_xtrunc (s : State) (r : RegIdx) : xtrunc s.cfg.xlen (s.readX r) = s.readX r := by
  unfold State.readX
  split
  · cases s.cfg.xlen <;> rfl
  · exact xtrunc_xtrunc _ _

theorem State.readX_lt (s : State) (r : RegIdx) : (s.readX r).toNat < 2 ^ s.cfg.xlen.bits := by
  rw [← State.readX_xtrunc]; exact xtrunc_lt _ _

theorem State.ea_xtrunc (s : State) (rs1 : RegIdx) (imm : BitVec 12) :
    xtrunc s.cfg.xlen (s.ea rs1 imm) = s.ea rs1 imm := xtrunc_xtrunc _ _

theorem State.eaU_xtrunc {n : Nat} (s : State) (rs1 : RegIdx) (uimm : BitVec n) :
    xtrunc s.cfg.xlen (s.eaU rs1 uimm) = s.eaU rs1 uimm := xtrunc_xtrunc _ _

theorem State.pcRel_xtrunc {n : Nat} (s : State) (imm : BitVec n) :
    xtrunc s.cfg.xlen (s.pcRel imm) = s.pcRel imm := xtrunc_xtrunc _ _

theorem State.jalrTarget_xtrunc (s : State) (rs1 : RegIdx) (imm : BitVec 12) :
    xtrunc s.cfg.xlen (s.jalrTarget rs1 imm) = s.jalrTarget rs1 imm := xtrunc_xtrunc _ _

theorem fcsrOf_frm : ∀ (frm : BitVec 3) (fl : FFlags), (fcsrOf frm fl).extractLsb' 5 3 = frm := by decide

theorem fcsrOf_fflags : ∀ (frm : BitVec 3) (fl : FFlags), (fcsrOf frm fl).extractLsb' 0 5 = fl := by decide

@[simp] theorem State.accrue_frm (s : State) (fl : FFlags) : (s.accrue fl).frm = s.frm :=
  fcsrOf_frm _ _

@[simp] theorem State.accrue_fflags (s : State) (fl : FFlags) :
    (s.accrue fl).fflags = s.fflags ||| fl := fcsrOf_fflags _ _

/-! ### Ending an instruction -/

/-- The pc after an instruction that does not transfer control. -/
theorem State.retire_pc_toNat {s u : State} (hp : u.pc = s.pc) (hc : u.cfg = s.cfg) (n : Nat) :
    (u.retire n).pc.toNat = (s.pc.toNat + n) % 2 ^ s.cfg.xlen.bits := by
  rw [State.retire_pc, hp, hc]
  exact byteAddr_eq s.cfg.xlen s.pc n

theorem State.retiredBy_retire (s : State) (n : Nat) : retiredBy n s (s.retire n) :=
  ⟨byteAddr_eq s.cfg.xlen s.pc n, rfl⟩

theorem sameMemory_refl (s : State) : sameMemory s s := ⟨fun _ => rfl, rfl⟩

/-- `finishX` writes one x register and retires. -/
theorem State.finishX_wroteX (s : State) (n : Nat) (rd : RegIdx) (v : Word) :
    ∃ t, s.finishX n rd v = .next t ∧ wroteX n rd (xtrunc s.cfg.xlen v) s t := by
  refine ⟨_, rfl, ⟨?_, ?_⟩, ?_, fun r h => ?_, fun r => ?_, ?_, ⟨fun a => ?_, ?_⟩, ?_⟩
  · exact State.retire_pc_toNat (by simp) (by simp) n
  · simp
  · rw [State.readX_retire]
    split
    · rename_i h; rw [h, State.readX_zero]
    · exact State.readX_writeX_same s (by assumption) v
  · rw [State.readX_retire, State.readX_writeX_other s h]
  · exact State.readF_congr (by simp) (by simp) r
  · simp
  · simp [State.readByte]
  · simp
  · simp [sameSystem]

/-- `retireTo` changes the pc and `instret` only. -/
theorem State.retireTo_completes (s : State) {t : Word} (h : xtrunc s.cfg.xlen t = t) :
    retiredAt t s (s.retireTo t) := ⟨h, rfl⟩

/-! ### Memory -/

theorem State.allowsAll_iff (s : State) (acc : Access) (a : Word) (n : Nat) :
    s.allowsAll acc a n = true ↔ ∀ k, k < n → s.allows acc (byteAddr s.cfg.xlen a k) = true := by
  simp [State.allowsAll]

theorem State.trapsMisaligned_iff (s : State) {a : Word} (ha : xtrunc s.cfg.xlen a = a) (n : Nat) :
    s.trapsMisaligned a n = true ↔ s.cfg.misaligned = .trap ∧ a.toNat % n ≠ 0 := by
  simp [State.trapsMisaligned, Machine.misaligned, xunsigned, ha]

/-- A load whose checks pass reads its bytes. -/
theorem State.load_of_accessible {s : State} {a : Word} {n : Nat} (ha : xtrunc s.cfg.xlen a = a)
    (h : accessible s .read a n) (k : Nat → Res) : s.load a n k = k (s.readBytes a n) := by
  have h1 : ¬ s.trapsMisaligned a n = true := by
    rw [State.trapsMisaligned_iff s ha]
    rintro ⟨h2, h3⟩
    rcases h.1 with h4 | h4
    · exact h3 h4
    · rw [h4] at h2; cases h2
  rw [State.load, if_neg h1, if_pos ((s.allowsAll_iff _ _ _).2 h.2)]

/-- A store whose checks pass writes its bytes. -/
theorem State.store_of_accessible {s : State} {a : Word} {n : Nat} (ha : xtrunc s.cfg.xlen a = a)
    (h : accessible s .write a n) (v : Nat) (k : State → Res) :
    s.store a n v k = k (s.writeBytes a v n) := by
  have h1 : ¬ s.trapsMisaligned a n = true := by
    rw [State.trapsMisaligned_iff s ha]
    rintro ⟨h2, h3⟩
    rcases h.1 with h4 | h4
    · exact h3 h4
    · rw [h4] at h2; cases h2
  rw [State.store, if_neg h1, if_pos ((s.allowsAll_iff _ _ _).2 h.2)]

/-- A load that goes on has read its bytes. -/
theorem State.load_next {s t : State} {a : Word} {n : Nat} {k : Nat → Res} (h : s.load a n k = .next t) :
    k (s.readBytes a n) = .next t := by
  unfold State.load at h
  split at h
  · cases h
  · split at h
    · exact h
    · cases h

/-- A store that goes on has written its bytes. -/
theorem State.store_next {s t : State} {a : Word} {n v : Nat} {k : State → Res}
    (h : s.store a n v k = .next t) : k (s.writeBytes a v n) = .next t := by
  unfold State.store at h
  split at h
  · cases h
  · split at h
    · exact h
    · cases h

/-- What a store of `n` bytes does to memory. -/
theorem State.storedBytes_writeBytes {s : State} (hs : s.mem.wf = true) (a : Word) (v : Nat) {n : Nat}
    (hn : n ≤ 2 ^ 32) : storedBytes a n v s (s.writeBytes a v n) :=
  ⟨fun _ hi => State.readByte_writeBytes_same hs a v hn hi,
    fun k hk => State.readByte_writeBytes_other s a v n k fun i hi h => hk ⟨i, hi, h⟩,
    State.mem_stale_writeBytes s a v n⟩

/-- A store of an x register whose checks pass. -/
theorem State.storeX_completes {s : State} (hs : s.mem.wf = true) {a : Word} {n : Nat}
    (ha : xtrunc s.cfg.xlen a = a) (hn : n ≤ 2 ^ 32) (h : accessible s .write a n) (len : Nat) (rs2 : RegIdx) :
    ∃ t, s.storeX len a rs2 n = .next t ∧ retiredBy len s t ∧ storedBytes a n (s.readX rs2).toNat s t ∧
      sameX s t ∧ sameF s t ∧ t.fcsr = s.fcsr ∧ sameSystem s t := by
  refine ⟨_, State.store_of_accessible ha h _ _, ?_, ?_, fun r => ?_, fun r => ?_, ?_, ?_⟩
  · refine ⟨?_, by simp⟩
    exact State.retire_pc_toNat (by simp) (by simp) len
  · exact State.storedBytes_writeBytes hs a _ hn
  · simp
  · simp
  · simp
  · simp [sameSystem]

/-! ### Control transfer -/

/-- A control transfer to an aligned target. -/
theorem State.jump_of_aligned {s : State} {t : Word} (h : t.toNat % s.cfg.ialignBytes = 0)
    (link : State → State) : s.jump t link = .next ((link s).retireTo t) := by
  simp [State.jump, State.targetMisaligned, h]

/-- A control transfer to a misaligned target. -/
theorem State.jump_of_misaligned {s : State} {t : Word} (h : t.toNat % s.cfg.ialignBytes ≠ 0)
    (link : State → State) : s.jump t link = .fault (.instructionAddressMisaligned t) := by
  simp [State.jump, State.targetMisaligned, h, raise]

/-- A control transfer that goes on had an aligned target. -/
theorem State.jump_next {s t' : State} {t : Word} {link : State → State} (h : s.jump t link = .next t') :
    t.toNat % s.cfg.ialignBytes = 0 ∧ t' = (link s).retireTo t := by
  by_cases ha : t.toNat % s.cfg.ialignBytes = 0
  · rw [State.jump_of_aligned ha] at h
    cases h
    exact ⟨ha, rfl⟩
  · rw [State.jump_of_misaligned ha] at h
    cases h

/-! ### Floating point -/

/-- The width of a format fits in an f register of `FLEN` bits. -/
theorem holdsBoxed_box {s t : State} {m : Fmt} (hw : m.width ≤ s.cfg.flen) (hf : s.cfg.flen ≤ 128) (rd : RegIdx)
    (v : FWord) (h : t.readF rd = ftrunc s.cfg.flen (s.box m v)) : holdsBoxed m rd v s t := by
  have key : ∀ u : FWord, ftrunc m.width (ftrunc s.cfg.flen (ftrunc m.width v ||| (u <<< m.width))) =
      ftrunc m.width v := by
    intro u
    apply BitVec.eq_of_getLsbD_eq
    intro i hi
    simp only [ftrunc, BitVec.getLsbD_setWidth, BitVec.getLsbD_or, BitVec.getLsbD_shiftLeft]
    by_cases h1 : i < m.width
    · have : i < s.cfg.flen := by omega
      simp [h1, hi, this]
    · simp [h1]
  constructor
  · rw [h]
    unfold State.box
    split <;> exact key _
  · intro hb k h1 h2
    have h3 : k < 128 := by omega
    have h4 : k - m.width < 128 := by omega
    rw [h, State.box, hb]
    simp only [ftrunc, BitVec.getLsbD_setWidth, BitVec.getLsbD_or, BitVec.getLsbD_shiftLeft,
      BitVec.getLsbD_allOnes]
    simp [h2, h3, h4, Nat.not_lt.2 h1]

theorem flen_le (c : Config) : c.flen ≤ 128 := by
  unfold Config.flen
  split
  · decide
  · split <;> decide

/-- `finishF` writes one f register, accrues flags and retires. -/
theorem State.finishF_wroteF (s : State) (n : Nat) {m : Fmt} (hw : m.width ≤ s.cfg.flen) (rd : RegIdx)
    (r : FWord × FFlags) : ∃ t, s.finishF n m rd r = .next t ∧ wroteF n m rd r.1 r.2 s t := by
  have hf : (((s.writeBoxed m rd r.1).accrue r.2).retire n).readF rd = ftrunc s.cfg.flen (s.box m r.1) := by
    rw [State.readF_retire, State.readF_accrue]
    exact State.readF_writeF_same s rd _
  refine ⟨_, rfl, ⟨?_, ?_⟩, holdsBoxed_box hw (flen_le _) rd _ hf, fun q h => ?_, fun q => ?_, ?_, ?_,
    ⟨fun a => ?_, ?_⟩, ?_⟩
  · exact State.retire_pc_toNat (by simp) (by simp) n
  · simp
  · rw [State.readF_retire, State.readF_accrue]
    exact State.readF_writeF_other s h _
  · rw [State.readX_retire, State.readX_accrue]
    exact State.readX_congr (by simp) (by simp) q
  · exact State.accrue_frm _ _
  · exact State.accrue_fflags _ _
  · simp [State.readByte]
  · simp
  · simp [sameSystem]

/-- `finishXF` writes one x register, accrues flags and retires. -/
theorem State.finishXF_wroteXF (s : State) (rd : RegIdx) (v : Word) (fl : FFlags) :
    ∃ t, s.finishXF rd v fl = .next t ∧ wroteXF rd (xtrunc s.cfg.xlen v) fl s t := by
  refine ⟨_, rfl, ⟨?_, ?_⟩, ?_, fun r h => ?_, fun r => ?_, ?_, ?_, ⟨fun a => ?_, ?_⟩, ?_⟩
  · exact State.retire_pc_toNat (by simp) (by simp) 4
  · simp
  · rw [State.readX_retire, State.readX_accrue]
    split
    · rename_i h; rw [h, State.readX_zero]
    · exact State.readX_writeX_same s (by assumption) v
  · rw [State.readX_retire, State.readX_accrue, State.readX_writeX_other s h]
  · rw [State.readF_retire, State.readF_accrue]
    exact State.readF_congr (by simp) (by simp) r
  · rw [show (((s.writeX rd v).accrue fl).retire 4).frm = ((s.writeX rd v).accrue fl).frm from rfl,
      State.accrue_frm]
    simp [State.frm]
  · rw [show (((s.writeX rd v).accrue fl).retire 4).fflags = ((s.writeX rd v).accrue fl).fflags from rfl,
      State.accrue_fflags]
    simp [State.fflags]
  · simp [State.readByte]
  · simp
  · simp [sameSystem]

/-- An instruction whose rounding mode resolves goes on in it. -/
theorem State.withRounding_some {s : State} {rm : BitVec 3} {mode : Rounding} (h : s.resolve rm = some mode)
    (i : Instr) (k : Rounding → Res) : s.withRounding i rm k = k mode := by simp [State.withRounding, h]

/-- An instruction whose rounding mode does not resolve is illegal. -/
theorem State.withRounding_none {s : State} {rm : BitVec 3} (h : s.resolve rm = none)
    (i : Instr) (k : Rounding → Res) :
    s.withRounding i rm k = .fault (.illegalInstruction (encode i).zext) := by
  simp [State.withRounding, h, raiseIllegal, raise]

/-- A rounding instruction that goes on resolved its mode. -/
theorem State.withRounding_next {s t : State} {i : Instr} {rm : BitVec 3} {k : Rounding → Res}
    (h : s.withRounding i rm k = .next t) : ∃ mode, s.resolve rm = some mode ∧ k mode = .next t := by
  unfold State.withRounding at h
  split at h
  · cases h
  · exact ⟨_, by assumption, h⟩

/-! ### From a meaning to its statement -/

/-- A meaning that ends in `finishX`. -/
theorem completesX_of_finishX {i : Instr} {s : State} {n : Nat} {rd : RegIdx} {w : Word} {P : Word → Prop}
    (h : exec i s = s.finishX n rd w) (hP : P (xtrunc s.cfg.xlen w)) : completesX i n s rd P := by
  obtain ⟨t, ht, hw⟩ := s.finishX_wroteX n rd w
  exact ⟨t, _, h.trans ht, hw, hP⟩

/-- A meaning that ends in `finishF`. -/
theorem completesF_of_finishF {i : Instr} {s : State} {n : Nat} {m : Fmt} {rd : RegIdx} {r : FWord × FFlags}
    (hw : m.width ≤ s.cfg.flen) (h : exec i s = s.finishF n m rd r) : completesF i n s m rd r := by
  obtain ⟨t, ht, hw⟩ := s.finishF_wroteF n hw rd r
  exact ⟨t, h.trans ht, hw⟩

/-- A meaning that ends in `finishXF`. -/
theorem completesXF_of_finishXF {i : Instr} {s : State} {rd : RegIdx} {w : Word} {fl : FFlags}
    {P : Word → FFlags → Prop} (h : exec i s = s.finishXF rd w fl) (hP : P (xtrunc s.cfg.xlen w) fl) :
    completesXF i s rd P := by
  obtain ⟨t, ht, hw⟩ := s.finishXF_wroteXF rd w fl
  exact ⟨t, _, _, h.trans ht, hw, hP⟩

/-- A control transfer that links nothing. -/
theorem completesAt_of_retireTo {i : Instr} {s : State} {t : Word} (ht : xtrunc s.cfg.xlen t = t)
    (h : exec i s = .next (s.retireTo t)) : completesAt i s t :=
  ⟨_, h, s.retireTo_completes ht, fun _ => rfl, fun _ => rfl, rfl, sameMemory_refl _, rfl, rfl, rfl, rfl, rfl⟩

/-- A branch not taken. -/
theorem completesAt_of_retire {i : Instr} {s : State} {n : Nat}
    (h : exec i s = .next (s.retire n)) :
    completesAt i s (xtrunc s.cfg.xlen (s.pc + BitVec.ofNat 64 n)) :=
  ⟨_, h, ⟨rfl, rfl⟩, fun _ => rfl, fun _ => rfl, rfl, sameMemory_refl _, rfl, rfl, rfl, rfl, rfl⟩

/-- A jump that links. -/
theorem State.jumpLink_linkedX (s : State) (n : Nat) (rd : RegIdx) {t : Word} (ht : xtrunc s.cfg.xlen t = t)
    (ha : t.toNat % s.cfg.ialignBytes = 0) :
    ∃ u, s.jumpLink n rd t = .next u ∧ linkedX t rd (xtrunc s.cfg.xlen (s.pc + BitVec.ofNat 64 n)) s u := by
  refine ⟨_, State.jump_of_aligned ha _, ⟨?_, ?_⟩, ?_, fun r h => ?_, fun r => ?_, ?_, ⟨fun a => ?_, ?_⟩, ?_⟩
  · simpa using ht
  · simp
  · rw [State.readX_retireTo]
    split
    · rename_i h; rw [h, State.readX_zero]
    · rw [State.readX_writeX_same s (by assumption), xtrunc_xtrunc]
  · rw [State.readX_retireTo, State.readX_writeX_other s h]
  · exact State.readF_congr (by simp) (by simp) r
  · simp
  · simp [State.readByte]
  · simp
  · simp [sameSystem]

/-- Formats fit in the f registers where their extension is present. -/
theorem flen_of_f (c : Config) : Fmt.width .s ≤ c.flen := by
  unfold Config.flen
  split
  · decide
  · split <;> decide

theorem flen_of_d {c : Config} (h : c.ext.d = true) : Fmt.width .d ≤ c.flen := by
  unfold Config.flen
  split
  · decide
  · simp [Fmt.width]

theorem flen_of_q {c : Config} (h : c.ext.q = true) : Fmt.width .q ≤ c.flen := by
  simp [Config.flen, h, Fmt.width]

/-! ### Atomics, CSRs and fetching -/

/-- An AMO that completes was aligned and permitted, stored its operation and wrote the old value (R341). -/
theorem State.amo_next {s t : State} {w : Nat} {rd rs1 rs2 : RegIdx} {op : BitVec w → BitVec w → BitVec w}
    (h : s.amo w rd rs1 rs2 op = .next t) :
    misaligned s.cfg.xlen (s.readX rs1) (w / 8) = false ∧ s.allowsAmo (s.readX rs1) (w / 8) = true ∧
      ((s.writeBytes (s.readX rs1)
          (op (BitVec.ofNat w (s.readBytes (s.readX rs1) (w / 8))) ((s.readX rs2).setWidth w)).toNat
          (w / 8)).finishX 4 rd
        (xsext s.cfg.xlen (BitVec.ofNat w (s.readBytes (s.readX rs1) (w / 8))))) = .next t := by
  unfold State.amo at h
  simp only at h
  split at h
  · cases h
  · split at h
    · exact ⟨Bool.eq_false_iff.2 ‹_›, ‹_›, h⟩
    · cases h

/-- An LR that completes was aligned and permitted and holds its reservation (R342). -/
theorem State.lr_next {s t : State} {w : Nat} {rd rs1 : RegIdx} (h : s.lr w rd rs1 = .next t) :
    misaligned s.cfg.xlen (s.readX rs1) (w / 8) = false ∧ s.allowsAll .read (s.readX rs1) (w / 8) = true ∧
      { s with reservation := some { addr := s.readX rs1, size := w / 8 } }.finishX 4 rd
        (xsext s.cfg.xlen (BitVec.ofNat w (s.readBytes (s.readX rs1) (w / 8)))) = .next t := by
  unfold State.lr at h
  simp only at h
  split at h
  · cases h
  · split at h
    · exact ⟨Bool.eq_false_iff.2 ‹_›, ‹_›, h⟩
    · cases h

/-- An SC that completes was aligned and permitted; it stored where it succeeded and otherwise not, and
holds no reservation (R343). -/
theorem State.sc_next {s t : State} {w : Nat} {rd rs1 rs2 : RegIdx} (h : s.sc w rd rs1 rs2 = .next t) :
    misaligned s.cfg.xlen (s.readX rs1) (w / 8) = false ∧ s.allowsAll .write (s.readX rs1) (w / 8) = true ∧
      ((s.scSucceeds (s.readX rs1) (w / 8) = true ∧
          State.finishX { s.writeBytes (s.readX rs1) ((s.readX rs2).setWidth w).toNat (w / 8) with
            reservation := none, draws := s.draws + 1 } 4 rd 0#64 = .next t) ∨
        (s.scSucceeds (s.readX rs1) (w / 8) = false ∧
          State.finishX { s with reservation := none, draws := s.draws + 1 } 4 rd 1#64 = .next t)) := by
  unfold State.sc at h
  simp only at h
  split at h
  · cases h
  · split at h
    · refine ⟨Bool.eq_false_iff.2 ‹_›, ‹_›, ?_⟩
      split at h
      · exact .inl ⟨‹_›, h⟩
      · exact .inr ⟨Bool.eq_false_iff.2 ‹_›, h⟩
    · cases h

/-- A CSR instruction that completes named a CSR that exists and did not write a read-only one (R220). -/
theorem State.csrLaw_next {s t : State} {i : Instr} {rd : RegIdx} {csr : BitVec 12} {reads writes : Bool}
    {new : Word → Word} (h : s.csrLaw i rd csr reads writes new = .next t) :
    ∃ c, s.csrAt csr = some c ∧ (writes && csrReadOnly csr) = false ∧
      t = (s.csrAccess rd c reads writes new).retire 4 := by
  unfold State.csrLaw at h
  split at h
  · cases h
  · split at h
    · cases h
    · cases h
      exact ⟨_, ‹_›, Bool.eq_false_iff.2 ‹_›, rfl⟩

/-- A parcel that is fetched has both bytes executable and fresh (R77). -/
theorem State.fetchParcel_next {s t : State} {off : Nat} {k : BitVec 16 → Res}
    (h : s.fetchParcel off k = .next t) :
    s.allows .execute (byteAddr s.cfg.xlen s.pc off) = true ∧
      s.allows .execute (byteAddr s.cfg.xlen s.pc (off + 1)) = true ∧
      byteAddr s.cfg.xlen s.pc off ∉ s.stale ∧ byteAddr s.cfg.xlen s.pc (off + 1) ∉ s.stale ∧
      k (s.readByte (byteAddr s.cfg.xlen s.pc (off + 1)) ++ s.readByte (byteAddr s.cfg.xlen s.pc off)) =
        .next t := by
  unfold State.fetchParcel at h
  simp only at h
  split at h
  · rename_i h1
    split at h
    · cases h
    · rename_i h2
      simp only [Bool.and_eq_true] at h1
      simp only [Bool.or_eq_true, List.contains_eq_mem, decide_eq_true_eq, not_or] at h2
      exact ⟨h1.1, h1.2, h2.1, h2.2, h⟩
  · cases h

/-- A step that goes on ran an instruction that some word decodes to (R18, R100). -/
theorem State.stepWith_next {s t : State} {run : Instr → State → Res} (h : s.stepWith run = .next t) :
    ∃ e i, decode s.cfg e = .ok i ∧ run i s = .next t := by
  have decoded {e : Encoded}
      (he : (match decode s.cfg e with
        | .ok i => run i s
        | .error err => raise (.illegalInstruction err.word)) = .next t) :
      ∃ i, decode s.cfg e = .ok i ∧ run i s = .next t := by
    split at he
    · exact ⟨_, ‹_›, he⟩
    · cases he
  unfold State.stepWith State.fetch at h
  have h := (State.fetchParcel_next h).2.2.2.2
  simp only at h
  split at h
  · exact ⟨_, decoded (State.fetchParcel_next h).2.2.2.2⟩
  · exact ⟨_, decoded h⟩

/-! ### CSRs, the reservation and the launch: what each lookup can answer -/

/-- A number of R33's table is looked up there alone. -/
theorem State.csrAt_of_standard {s : State} {n : BitVec 12} (h : n ∈ standardNumbers) :
    s.csrAt n = s.standardCsr n := by
  simp [State.csrAt, h]

/-- Any other number is looked up in `CsrExtra` alone. -/
theorem State.csrAt_of_extra {s : State} {n : BitVec 12} (h : n ∉ standardNumbers) :
    s.csrAt n = (s.cfg.csrExtra.find? fun e => e.number == n).map .extra := by
  simp [State.csrAt, h]

/-- A reservation that covers an SC is held, is of its size, and has its bytes in its block. -/
theorem State.reserved_iff {s : State} {a : Word} {n : Nat} :
    s.reserved a n = true ↔ ∃ r, s.reservation = some r ∧ r.size = n ∧
      r.addr.toNat - r.addr.toNat % max s.cfg.resGran r.size ≤ a.toNat ∧
      a.toNat + n ≤ r.addr.toNat - r.addr.toNat % max s.cfg.resGran r.size + max s.cfg.resGran r.size := by
  unfold State.reserved
  cases s.reservation with
  | none => simp
  | some r => simp [and_assoc]

/-- A launch that starts has admitted parameters and asks for nothing outside R9. -/
theorem Launch.start_next {l : Launch} {t : State} (h : l.start = .next t) :
    ∃ x, xlenOf l.xlenBits = some x ∧ l.nHarts = 1 ∧ l.baseE = false ∧ l.future = [] ∧
      configAdmitted { l.cfg with xlen := x } = true ∧ t = l.state { l.cfg with xlen := x } := by
  unfold Launch.start at h
  split at h
  · cases h
  · split at h
    · cases h
    · split at h
      · cases h
      · split at h
        · cases h
        · simp only at h
          split at h
          · cases h
            exact ⟨_, ‹_›, not_not.1 ‹_›, Bool.eq_false_iff.2 ‹_›, ‹_›, ‹_›, rfl⟩
          · cases h

end Sys2Proof.Machine
end

