-- ==== Sys2Proof/Laws/PerInstr.lean ====
section
/-! SUPPORT. Statements about every instruction of the table, one lemma for each constructor.
`EncodesItsLength` (R90): the two lowest bits of an encoded instruction say whether it is a 16-bit
parcel or a 32-bit word. -/

namespace Sys2Proof.Laws.EncodesItsLength

/-- The two lowest bits of the encoding are 11 where it is a 32-bit word and only there (R90). -/
def Statement (i : Instr) : Prop :=
  match encode i with
  | .half h => h.extractLsb' 0 2 ≠ 0b11#2
  | .word w => w.extractLsb' 0 2 = 0b11#2

theorem of_word {i : Instr} {w : BitVec 32} (h : encode i = .word w) (hw : w.extractLsb' 0 2 = 0b11#2) :
    Statement i := by simpa only [Statement, h] using hw

theorem of_half {i : Instr} {w : BitVec 16} (h : encode i = .half w) (hw : w.extractLsb' 0 2 ≠ 0b11#2) :
    Statement i := by simpa only [Statement, h] using hw

theorem lb (rd rs1 : RegIdx) (imm : BitVec 12) : Statement (.lb rd rs1 imm) :=
  of_word rfl ((low_mkI _ _ _ _ _).trans (by decide))
theorem lh (rd rs1 : RegIdx) (imm : BitVec 12) : Statement (.lh rd rs1 imm) :=
  of_word rfl ((low_mkI _ _ _ _ _).trans (by decide))
theorem lw (rd rs1 : RegIdx) (imm : BitVec 12) : Statement (.lw rd rs1 imm) :=
  of_word rfl ((low_mkI _ _ _ _ _).trans (by decide))
theorem lbu (rd rs1 : RegIdx) (imm : BitVec 12) : Statement (.lbu rd rs1 imm) :=
  of_word rfl ((low_mkI _ _ _ _ _).trans (by decide))
theorem lhu (rd rs1 : RegIdx) (imm : BitVec 12) : Statement (.lhu rd rs1 imm) :=
  of_word rfl ((low_mkI _ _ _ _ _).trans (by decide))
theorem ld (rd rs1 : RegIdx) (imm : BitVec 12) : Statement (.ld rd rs1 imm) :=
  of_word rfl ((low_mkI _ _ _ _ _).trans (by decide))
theorem lwu (rd rs1 : RegIdx) (imm : BitVec 12) : Statement (.lwu rd rs1 imm) :=
  of_word rfl ((low_mkI _ _ _ _ _).trans (by decide))
theorem sb (rs1 rs2 : RegIdx) (imm : BitVec 12) : Statement (.sb rs1 rs2 imm) :=
  of_word rfl ((low_mkS _ _ _ _ _).trans (by decide))
theorem sh (rs1 rs2 : RegIdx) (imm : BitVec 12) : Statement (.sh rs1 rs2 imm) :=
  of_word rfl ((low_mkS _ _ _ _ _).trans (by decide))
theorem sw (rs1 rs2 : RegIdx) (imm : BitVec 12) : Statement (.sw rs1 rs2 imm) :=
  of_word rfl ((low_mkS _ _ _ _ _).trans (by decide))
theorem sd (rs1 rs2 : RegIdx) (imm : BitVec 12) : Statement (.sd rs1 rs2 imm) :=
  of_word rfl ((low_mkS _ _ _ _ _).trans (by decide))
theorem sll (rd rs1 rs2 : RegIdx) : Statement (.sll rd rs1 rs2) :=
  of_word rfl ((low_mkR _ _ _ _ _ _).trans (by decide))
theorem slli (rd rs1 : RegIdx) (shamt : BitVec 6) : Statement (.slli rd rs1 shamt) :=
  of_word rfl (low_mkShift _ _ _ _ _)
theorem srl (rd rs1 rs2 : RegIdx) : Statement (.srl rd rs1 rs2) :=
  of_word rfl ((low_mkR _ _ _ _ _ _).trans (by decide))
theorem srli (rd rs1 : RegIdx) (shamt : BitVec 6) : Statement (.srli rd rs1 shamt) :=
  of_word rfl (low_mkShift _ _ _ _ _)
theorem sra (rd rs1 rs2 : RegIdx) : Statement (.sra rd rs1 rs2) :=
  of_word rfl ((low_mkR _ _ _ _ _ _).trans (by decide))
theorem srai (rd rs1 : RegIdx) (shamt : BitVec 6) : Statement (.srai rd rs1 shamt) :=
  of_word rfl (low_mkShift _ _ _ _ _)
theorem sllw (rd rs1 rs2 : RegIdx) : Statement (.sllw rd rs1 rs2) :=
  of_word rfl ((low_mkR _ _ _ _ _ _).trans (by decide))
theorem slliw (rd rs1 : RegIdx) (shamt : BitVec 5) : Statement (.slliw rd rs1 shamt) :=
  of_word rfl ((low_mkR _ _ _ _ _ _).trans (by decide))
theorem srlw (rd rs1 rs2 : RegIdx) : Statement (.srlw rd rs1 rs2) :=
  of_word rfl ((low_mkR _ _ _ _ _ _).trans (by decide))
theorem srliw (rd rs1 : RegIdx) (shamt : BitVec 5) : Statement (.srliw rd rs1 shamt) :=
  of_word rfl ((low_mkR _ _ _ _ _ _).trans (by decide))
theorem sraw (rd rs1 rs2 : RegIdx) : Statement (.sraw rd rs1 rs2) :=
  of_word rfl ((low_mkR _ _ _ _ _ _).trans (by decide))
theorem sraiw (rd rs1 : RegIdx) (shamt : BitVec 5) : Statement (.sraiw rd rs1 shamt) :=
  of_word rfl ((low_mkR _ _ _ _ _ _).trans (by decide))
theorem add (rd rs1 rs2 : RegIdx) : Statement (.add rd rs1 rs2) :=
  of_word rfl ((low_mkR _ _ _ _ _ _).trans (by decide))
theorem addi (rd rs1 : RegIdx) (imm : BitVec 12) : Statement (.addi rd rs1 imm) :=
  of_word rfl ((low_mkI _ _ _ _ _).trans (by decide))
theorem sub (rd rs1 rs2 : RegIdx) : Statement (.sub rd rs1 rs2) :=
  of_word rfl ((low_mkR _ _ _ _ _ _).trans (by decide))
theorem addw (rd rs1 rs2 : RegIdx) : Statement (.addw rd rs1 rs2) :=
  of_word rfl ((low_mkR _ _ _ _ _ _).trans (by decide))
theorem addiw (rd rs1 : RegIdx) (imm : BitVec 12) : Statement (.addiw rd rs1 imm) :=
  of_word rfl ((low_mkI _ _ _ _ _).trans (by decide))
theorem subw (rd rs1 rs2 : RegIdx) : Statement (.subw rd rs1 rs2) :=
  of_word rfl ((low_mkR _ _ _ _ _ _).trans (by decide))
theorem lui (rd : RegIdx) (imm : BitVec 20) : Statement (.lui rd imm) :=
  of_word rfl ((low_mkU _ _ _).trans (by decide))
theorem auipc (rd : RegIdx) (imm : BitVec 20) : Statement (.auipc rd imm) :=
  of_word rfl ((low_mkU _ _ _).trans (by decide))
theorem xor (rd rs1 rs2 : RegIdx) : Statement (.xor rd rs1 rs2) :=
  of_word rfl ((low_mkR _ _ _ _ _ _).trans (by decide))
theorem xori (rd rs1 : RegIdx) (imm : BitVec 12) : Statement (.xori rd rs1 imm) :=
  of_word rfl ((low_mkI _ _ _ _ _).trans (by decide))
theorem or (rd rs1 rs2 : RegIdx) : Statement (.or rd rs1 rs2) :=
  of_word rfl ((low_mkR _ _ _ _ _ _).trans (by decide))
theorem ori (rd rs1 : RegIdx) (imm : BitVec 12) : Statement (.ori rd rs1 imm) :=
  of_word rfl ((low_mkI _ _ _ _ _).trans (by decide))
theorem and (rd rs1 rs2 : RegIdx) : Statement (.and rd rs1 rs2) :=
  of_word rfl ((low_mkR _ _ _ _ _ _).trans (by decide))
theorem andi (rd rs1 : RegIdx) (imm : BitVec 12) : Statement (.andi rd rs1 imm) :=
  of_word rfl ((low_mkI _ _ _ _ _).trans (by decide))
theorem slt (rd rs1 rs2 : RegIdx) : Statement (.slt rd rs1 rs2) :=
  of_word rfl ((low_mkR _ _ _ _ _ _).trans (by decide))
theorem slti (rd rs1 : RegIdx) (imm : BitVec 12) : Statement (.slti rd rs1 imm) :=
  of_word rfl ((low_mkI _ _ _ _ _).trans (by decide))
theorem sltu (rd rs1 rs2 : RegIdx) : Statement (.sltu rd rs1 rs2) :=
  of_word rfl ((low_mkR _ _ _ _ _ _).trans (by decide))
theorem sltiu (rd rs1 : RegIdx) (imm : BitVec 12) : Statement (.sltiu rd rs1 imm) :=
  of_word rfl ((low_mkI _ _ _ _ _).trans (by decide))
theorem beq (rs1 rs2 : RegIdx) (imm : BitVec 13) : Statement (.beq rs1 rs2 imm) :=
  of_word rfl (low_mkB _ _ _ _)
theorem bne (rs1 rs2 : RegIdx) (imm : BitVec 13) : Statement (.bne rs1 rs2 imm) :=
  of_word rfl (low_mkB _ _ _ _)
theorem blt (rs1 rs2 : RegIdx) (imm : BitVec 13) : Statement (.blt rs1 rs2 imm) :=
  of_word rfl (low_mkB _ _ _ _)
theorem bge (rs1 rs2 : RegIdx) (imm : BitVec 13) : Statement (.bge rs1 rs2 imm) :=
  of_word rfl (low_mkB _ _ _ _)
theorem bltu (rs1 rs2 : RegIdx) (imm : BitVec 13) : Statement (.bltu rs1 rs2 imm) :=
  of_word rfl (low_mkB _ _ _ _)
theorem bgeu (rs1 rs2 : RegIdx) (imm : BitVec 13) : Statement (.bgeu rs1 rs2 imm) :=
  of_word rfl (low_mkB _ _ _ _)
theorem jal (rd : RegIdx) (imm : BitVec 21) : Statement (.jal rd imm) :=
  of_word rfl (low_mkJ _ _)
theorem jalr (rd rs1 : RegIdx) (imm : BitVec 12) : Statement (.jalr rd rs1 imm) :=
  of_word rfl ((low_mkI _ _ _ _ _).trans (by decide))
theorem fence (pred succ ign1 : BitVec 4) (ign2 ign3 : BitVec 5) : Statement (.fence pred succ ign1 ign2 ign3) :=
  of_word rfl (by simp [low_or, low_place_of_le]; decide)
theorem fenceI (ign1 : BitVec 12) (ign2 ign3 : BitVec 5) : Statement (.fenceI ign1 ign2 ign3) :=
  of_word rfl ((low_mkI _ _ _ _ _).trans (by decide))
theorem scall : Statement .scall :=
  of_word rfl ((low_mkI _ _ _ _ _).trans (by decide))
theorem sbreak : Statement .sbreak :=
  of_word rfl ((low_mkI _ _ _ _ _).trans (by decide))
theorem rdcycle (rd : RegIdx) : Statement (.rdcycle rd) :=
  of_word rfl ((low_mkI _ _ _ _ _).trans (by decide))
theorem rdcycleh (rd : RegIdx) : Statement (.rdcycleh rd) :=
  of_word rfl ((low_mkI _ _ _ _ _).trans (by decide))
theorem rdtime (rd : RegIdx) : Statement (.rdtime rd) :=
  of_word rfl ((low_mkI _ _ _ _ _).trans (by decide))
theorem rdtimeh (rd : RegIdx) : Statement (.rdtimeh rd) :=
  of_word rfl ((low_mkI _ _ _ _ _).trans (by decide))
theorem rdinstret (rd : RegIdx) : Statement (.rdinstret rd) :=
  of_word rfl ((low_mkI _ _ _ _ _).trans (by decide))
theorem rdinstreth (rd : RegIdx) : Statement (.rdinstreth rd) :=
  of_word rfl ((low_mkI _ _ _ _ _).trans (by decide))
theorem csrrw (rd : RegIdx) (csr : BitVec 12) (rs1 : RegIdx) : Statement (.csrrw rd csr rs1) :=
  of_word rfl ((low_mkI _ _ _ _ _).trans (by decide))
theorem csrrs (rd : RegIdx) (csr : BitVec 12) (rs1 : RegIdx) : Statement (.csrrs rd csr rs1) :=
  of_word rfl ((low_mkI _ _ _ _ _).trans (by decide))
theorem csrrc (rd : RegIdx) (csr : BitVec 12) (rs1 : RegIdx) : Statement (.csrrc rd csr rs1) :=
  of_word rfl ((low_mkI _ _ _ _ _).trans (by decide))
theorem csrrwi (rd : RegIdx) (csr : BitVec 12) (zimm : BitVec 5) : Statement (.csrrwi rd csr zimm) :=
  of_word rfl ((low_mkI _ _ _ _ _).trans (by decide))
theorem csrrsi (rd : RegIdx) (csr : BitVec 12) (zimm : BitVec 5) : Statement (.csrrsi rd csr zimm) :=
  of_word rfl ((low_mkI _ _ _ _ _).trans (by decide))
theorem csrrci (rd : RegIdx) (csr : BitVec 12) (zimm : BitVec 5) : Statement (.csrrci rd csr zimm) :=
  of_word rfl ((low_mkI _ _ _ _ _).trans (by decide))
theorem ecall : Statement .ecall :=
  of_word rfl ((low_mkI _ _ _ _ _).trans (by decide))
theorem ebreak : Statement .ebreak :=
  of_word rfl ((low_mkI _ _ _ _ _).trans (by decide))
theorem eret : Statement .eret :=
  of_word rfl ((low_mkI _ _ _ _ _).trans (by decide))
theorem mrts : Statement .mrts :=
  of_word rfl ((low_mkI _ _ _ _ _).trans (by decide))
theorem mrth : Statement .mrth :=
  of_word rfl ((low_mkI _ _ _ _ _).trans (by decide))
theorem hrts : Statement .hrts :=
  of_word rfl ((low_mkI _ _ _ _ _).trans (by decide))
theorem wfi : Statement .wfi :=
  of_word rfl ((low_mkI _ _ _ _ _).trans (by decide))
theorem sfenceVm (rs1 : RegIdx) : Statement (.sfenceVm rs1) :=
  of_word rfl ((low_mkI _ _ _ _ _).trans (by decide))
theorem cLw (rd rs1 : RegIdx3) (uimm : BitVec 7) : Statement (.cLw rd rs1 uimm) :=
  of_half rfl (by simp [low_or, low_place_of_le]; decide)
theorem cLwsp (rd : RegIdx) (uimm : BitVec 8) : Statement (.cLwsp rd uimm) :=
  of_half rfl (by simp [low_or, low_place_of_le]; decide)
theorem cLd (rd rs1 : RegIdx3) (uimm : BitVec 8) : Statement (.cLd rd rs1 uimm) :=
  of_half rfl (by simp [low_or, low_place_of_le]; decide)
theorem cLdsp (rd : RegIdx) (uimm : BitVec 9) : Statement (.cLdsp rd uimm) :=
  of_half rfl (by simp [low_or, low_place_of_le]; decide)
theorem cSw (rs1 rs2 : RegIdx3) (uimm : BitVec 7) : Statement (.cSw rs1 rs2 uimm) :=
  of_half rfl (by simp [low_or, low_place_of_le]; decide)
theorem cSwsp (rs2 : RegIdx) (uimm : BitVec 8) : Statement (.cSwsp rs2 uimm) :=
  of_half rfl (by simp [low_or, low_place_of_le]; decide)
theorem cSd (rs1 rs2 : RegIdx3) (uimm : BitVec 8) : Statement (.cSd rs1 rs2 uimm) :=
  of_half rfl (by simp [low_or, low_place_of_le]; decide)
theorem cSdsp (rs2 : RegIdx) (uimm : BitVec 9) : Statement (.cSdsp rs2 uimm) :=
  of_half rfl (by simp [low_or, low_place_of_le]; decide)
theorem cAdd (rd rs2 : RegIdx) : Statement (.cAdd rd rs2) :=
  of_half rfl (by simp [low_or, low_place_of_le]; decide)
theorem cAddw (rd rs2 : RegIdx3) : Statement (.cAddw rd rs2) :=
  of_half rfl (by simp [low_or, low_place_of_le]; decide)
theorem cAddi (rd : RegIdx) (imm : BitVec 6) : Statement (.cAddi rd imm) :=
  of_half rfl (by simp [low_or, low_place_of_le]; decide)
theorem cAddiw (rd : RegIdx) (imm : BitVec 6) : Statement (.cAddiw rd imm) :=
  of_half rfl (by simp [low_or, low_place_of_le]; decide)
theorem cAddi16sp (imm : BitVec 10) : Statement (.cAddi16sp imm) :=
  of_half rfl (by simp [low_or, low_place_of_le]; decide)
theorem cAddi4spn (rd : RegIdx3) (uimm : BitVec 10) : Statement (.cAddi4spn rd uimm) :=
  of_half rfl (by simp [low_or, low_place_of_le]; decide)
theorem cLi (rd : RegIdx) (imm : BitVec 6) : Statement (.cLi rd imm) :=
  of_half rfl (by simp [low_or, low_place_of_le]; decide)
theorem cLui (rd : RegIdx) (imm : BitVec 6) : Statement (.cLui rd imm) :=
  of_half rfl (by simp [low_or, low_place_of_le]; decide)
theorem cMv (rd rs2 : RegIdx) : Statement (.cMv rd rs2) :=
  of_half rfl (by simp [low_or, low_place_of_le]; decide)
theorem cSub (rd rs2 : RegIdx3) : Statement (.cSub rd rs2) :=
  of_half rfl (by simp [low_or, low_place_of_le]; decide)
theorem cSlli (rd : RegIdx) (shamt : BitVec 6) : Statement (.cSlli rd shamt) :=
  of_half rfl (by simp [low_or, low_place_of_le]; decide)
theorem cBeqz (rs1 : RegIdx3) (imm : BitVec 9) : Statement (.cBeqz rs1 imm) :=
  of_half rfl (by simp [low_or, low_place_of_le]; decide)
theorem cBnez (rs1 : RegIdx3) (imm : BitVec 9) : Statement (.cBnez rs1 imm) :=
  of_half rfl (by simp [low_or, low_place_of_le]; decide)
theorem cJ (imm : BitVec 12) : Statement (.cJ imm) :=
  of_half rfl (by simp [low_or, low_place_of_le]; decide)
theorem cJr (rs1 : RegIdx) : Statement (.cJr rs1) :=
  of_half rfl (by simp [low_or, low_place_of_le]; decide)
theorem cJal (imm : BitVec 12) : Statement (.cJal imm) :=
  of_half rfl (by simp [low_or, low_place_of_le]; decide)
theorem cJalr (rs1 : RegIdx) : Statement (.cJalr rs1) :=
  of_half rfl (by simp [low_or, low_place_of_le]; decide)
theorem cEbreak : Statement .cEbreak :=
  of_half rfl (by simp [low_or, low_place_of_le]; decide)
theorem cNop : Statement .cNop :=
  of_half rfl (by simp [low_or, low_place_of_le]; decide)
theorem cSrli (rd : RegIdx3) (shamt : BitVec 6) : Statement (.cSrli rd shamt) :=
  of_half rfl (by simp [low_or, low_place_of_le]; decide)
theorem cSrai (rd : RegIdx3) (shamt : BitVec 6) : Statement (.cSrai rd shamt) :=
  of_half rfl (by simp [low_or, low_place_of_le]; decide)
theorem cAndi (rd : RegIdx3) (imm : BitVec 6) : Statement (.cAndi rd imm) :=
  of_half rfl (by simp [low_or, low_place_of_le]; decide)
theorem cXor (rd rs2 : RegIdx3) : Statement (.cXor rd rs2) :=
  of_half rfl (by simp [low_or, low_place_of_le]; decide)
theorem cOr (rd rs2 : RegIdx3) : Statement (.cOr rd rs2) :=
  of_half rfl (by simp [low_or, low_place_of_le]; decide)
theorem cAnd (rd rs2 : RegIdx3) : Statement (.cAnd rd rs2) :=
  of_half rfl (by simp [low_or, low_place_of_le]; decide)
theorem cSubw (rd rs2 : RegIdx3) : Statement (.cSubw rd rs2) :=
  of_half rfl (by simp [low_or, low_place_of_le]; decide)
theorem cFlw (rd rs1 : RegIdx3) (uimm : BitVec 7) : Statement (.cFlw rd rs1 uimm) :=
  of_half rfl (by simp [low_or, low_place_of_le]; decide)
theorem cFlwsp (rd : RegIdx) (uimm : BitVec 8) : Statement (.cFlwsp rd uimm) :=
  of_half rfl (by simp [low_or, low_place_of_le]; decide)
theorem cFsw (rs1 rs2 : RegIdx3) (uimm : BitVec 7) : Statement (.cFsw rs1 rs2 uimm) :=
  of_half rfl (by simp [low_or, low_place_of_le]; decide)
theorem cFswsp (rs2 : RegIdx) (uimm : BitVec 8) : Statement (.cFswsp rs2 uimm) :=
  of_half rfl (by simp [low_or, low_place_of_le]; decide)
theorem cFld (rd rs1 : RegIdx3) (uimm : BitVec 8) : Statement (.cFld rd rs1 uimm) :=
  of_half rfl (by simp [low_or, low_place_of_le]; decide)
theorem cFldsp (rd : RegIdx) (uimm : BitVec 9) : Statement (.cFldsp rd uimm) :=
  of_half rfl (by simp [low_or, low_place_of_le]; decide)
theorem cFsd (rs1 rs2 : RegIdx3) (uimm : BitVec 8) : Statement (.cFsd rs1 rs2 uimm) :=
  of_half rfl (by simp [low_or, low_place_of_le]; decide)
theorem cFsdsp (rs2 : RegIdx) (uimm : BitVec 9) : Statement (.cFsdsp rs2 uimm) :=
  of_half rfl (by simp [low_or, low_place_of_le]; decide)
theorem mul (rd rs1 rs2 : RegIdx) : Statement (.mul rd rs1 rs2) :=
  of_word rfl ((low_mkR _ _ _ _ _ _).trans (by decide))
theorem mulh (rd rs1 rs2 : RegIdx) : Statement (.mulh rd rs1 rs2) :=
  of_word rfl ((low_mkR _ _ _ _ _ _).trans (by decide))
theorem mulhsu (rd rs1 rs2 : RegIdx) : Statement (.mulhsu rd rs1 rs2) :=
  of_word rfl ((low_mkR _ _ _ _ _ _).trans (by decide))
theorem mulhu (rd rs1 rs2 : RegIdx) : Statement (.mulhu rd rs1 rs2) :=
  of_word rfl ((low_mkR _ _ _ _ _ _).trans (by decide))
theorem div (rd rs1 rs2 : RegIdx) : Statement (.div rd rs1 rs2) :=
  of_word rfl ((low_mkR _ _ _ _ _ _).trans (by decide))
theorem divu (rd rs1 rs2 : RegIdx) : Statement (.divu rd rs1 rs2) :=
  of_word rfl ((low_mkR _ _ _ _ _ _).trans (by decide))
theorem rem (rd rs1 rs2 : RegIdx) : Statement (.rem rd rs1 rs2) :=
  of_word rfl ((low_mkR _ _ _ _ _ _).trans (by decide))
theorem remu (rd rs1 rs2 : RegIdx) : Statement (.remu rd rs1 rs2) :=
  of_word rfl ((low_mkR _ _ _ _ _ _).trans (by decide))
theorem mulw (rd rs1 rs2 : RegIdx) : Statement (.mulw rd rs1 rs2) :=
  of_word rfl ((low_mkR _ _ _ _ _ _).trans (by decide))
theorem divw (rd rs1 rs2 : RegIdx) : Statement (.divw rd rs1 rs2) :=
  of_word rfl ((low_mkR _ _ _ _ _ _).trans (by decide))
theorem divuw (rd rs1 rs2 : RegIdx) : Statement (.divuw rd rs1 rs2) :=
  of_word rfl ((low_mkR _ _ _ _ _ _).trans (by decide))
theorem remw (rd rs1 rs2 : RegIdx) : Statement (.remw rd rs1 rs2) :=
  of_word rfl ((low_mkR _ _ _ _ _ _).trans (by decide))
theorem remuw (rd rs1 rs2 : RegIdx) : Statement (.remuw rd rs1 rs2) :=
  of_word rfl ((low_mkR _ _ _ _ _ _).trans (by decide))
theorem lrW (rd rs1 : RegIdx) (aq rl : BitVec 1) : Statement (.lrW rd rs1 aq rl) :=
  of_word rfl (low_mkAmo _ _ _ _ _ _ _)
theorem scW (rd rs1 rs2 : RegIdx) (aq rl : BitVec 1) : Statement (.scW rd rs1 rs2 aq rl) :=
  of_word rfl (low_mkAmo _ _ _ _ _ _ _)
theorem amoswapW (rd rs1 rs2 : RegIdx) (aq rl : BitVec 1) : Statement (.amoswapW rd rs1 rs2 aq rl) :=
  of_word rfl (low_mkAmo _ _ _ _ _ _ _)
theorem amoaddW (rd rs1 rs2 : RegIdx) (aq rl : BitVec 1) : Statement (.amoaddW rd rs1 rs2 aq rl) :=
  of_word rfl (low_mkAmo _ _ _ _ _ _ _)
theorem amoxorW (rd rs1 rs2 : RegIdx) (aq rl : BitVec 1) : Statement (.amoxorW rd rs1 rs2 aq rl) :=
  of_word rfl (low_mkAmo _ _ _ _ _ _ _)
theorem amoandW (rd rs1 rs2 : RegIdx) (aq rl : BitVec 1) : Statement (.amoandW rd rs1 rs2 aq rl) :=
  of_word rfl (low_mkAmo _ _ _ _ _ _ _)
theorem amoorW (rd rs1 rs2 : RegIdx) (aq rl : BitVec 1) : Statement (.amoorW rd rs1 rs2 aq rl) :=
  of_word rfl (low_mkAmo _ _ _ _ _ _ _)
theorem amominW (rd rs1 rs2 : RegIdx) (aq rl : BitVec 1) : Statement (.amominW rd rs1 rs2 aq rl) :=
  of_word rfl (low_mkAmo _ _ _ _ _ _ _)
theorem amomaxW (rd rs1 rs2 : RegIdx) (aq rl : BitVec 1) : Statement (.amomaxW rd rs1 rs2 aq rl) :=
  of_word rfl (low_mkAmo _ _ _ _ _ _ _)
theorem amominuW (rd rs1 rs2 : RegIdx) (aq rl : BitVec 1) : Statement (.amominuW rd rs1 rs2 aq rl) :=
  of_word rfl (low_mkAmo _ _ _ _ _ _ _)
theorem amomaxuW (rd rs1 rs2 : RegIdx) (aq rl : BitVec 1) : Statement (.amomaxuW rd rs1 rs2 aq rl) :=
  of_word rfl (low_mkAmo _ _ _ _ _ _ _)
theorem lrD (rd rs1 : RegIdx) (aq rl : BitVec 1) : Statement (.lrD rd rs1 aq rl) :=
  of_word rfl (low_mkAmo _ _ _ _ _ _ _)
theorem scD (rd rs1 rs2 : RegIdx) (aq rl : BitVec 1) : Statement (.scD rd rs1 rs2 aq rl) :=
  of_word rfl (low_mkAmo _ _ _ _ _ _ _)
theorem amoswapD (rd rs1 rs2 : RegIdx) (aq rl : BitVec 1) : Statement (.amoswapD rd rs1 rs2 aq rl) :=
  of_word rfl (low_mkAmo _ _ _ _ _ _ _)
theorem amoaddD (rd rs1 rs2 : RegIdx) (aq rl : BitVec 1) : Statement (.amoaddD rd rs1 rs2 aq rl) :=
  of_word rfl (low_mkAmo _ _ _ _ _ _ _)
theorem amoxorD (rd rs1 rs2 : RegIdx) (aq rl : BitVec 1) : Statement (.amoxorD rd rs1 rs2 aq rl) :=
  of_word rfl (low_mkAmo _ _ _ _ _ _ _)
theorem amoandD (rd rs1 rs2 : RegIdx) (aq rl : BitVec 1) : Statement (.amoandD rd rs1 rs2 aq rl) :=
  of_word rfl (low_mkAmo _ _ _ _ _ _ _)
theorem amoorD (rd rs1 rs2 : RegIdx) (aq rl : BitVec 1) : Statement (.amoorD rd rs1 rs2 aq rl) :=
  of_word rfl (low_mkAmo _ _ _ _ _ _ _)
theorem amominD (rd rs1 rs2 : RegIdx) (aq rl : BitVec 1) : Statement (.amominD rd rs1 rs2 aq rl) :=
  of_word rfl (low_mkAmo _ _ _ _ _ _ _)
theorem amomaxD (rd rs1 rs2 : RegIdx) (aq rl : BitVec 1) : Statement (.amomaxD rd rs1 rs2 aq rl) :=
  of_word rfl (low_mkAmo _ _ _ _ _ _ _)
theorem amominuD (rd rs1 rs2 : RegIdx) (aq rl : BitVec 1) : Statement (.amominuD rd rs1 rs2 aq rl) :=
  of_word rfl (low_mkAmo _ _ _ _ _ _ _)
theorem amomaxuD (rd rs1 rs2 : RegIdx) (aq rl : BitVec 1) : Statement (.amomaxuD rd rs1 rs2 aq rl) :=
  of_word rfl (low_mkAmo _ _ _ _ _ _ _)
theorem fmvSX (rd rs1 : RegIdx) : Statement (.fmvSX rd rs1) :=
  of_word rfl ((low_mkR4 _ _ _ _ _ _ _).trans (by decide))
theorem fmvXS (rd rs1 : RegIdx) : Statement (.fmvXS rd rs1) :=
  of_word rfl ((low_mkR4 _ _ _ _ _ _ _).trans (by decide))
theorem fmvDX (rd rs1 : RegIdx) : Statement (.fmvDX rd rs1) :=
  of_word rfl ((low_mkR4 _ _ _ _ _ _ _).trans (by decide))
theorem fmvXD (rd rs1 : RegIdx) : Statement (.fmvXD rd rs1) :=
  of_word rfl ((low_mkR4 _ _ _ _ _ _ _).trans (by decide))
theorem flw (rd rs1 : RegIdx) (imm : BitVec 12) : Statement (.flw rd rs1 imm) :=
  of_word rfl ((low_mkI _ _ _ _ _).trans (by decide))
theorem fsw (rs1 rs2 : RegIdx) (imm : BitVec 12) : Statement (.fsw rs1 rs2 imm) :=
  of_word rfl ((low_mkS _ _ _ _ _).trans (by decide))
theorem fld (rd rs1 : RegIdx) (imm : BitVec 12) : Statement (.fld rd rs1 imm) :=
  of_word rfl ((low_mkI _ _ _ _ _).trans (by decide))
theorem fsd (rs1 rs2 : RegIdx) (imm : BitVec 12) : Statement (.fsd rs1 rs2 imm) :=
  of_word rfl ((low_mkS _ _ _ _ _).trans (by decide))
theorem flq (rd rs1 : RegIdx) (imm : BitVec 12) : Statement (.flq rd rs1 imm) :=
  of_word rfl ((low_mkI _ _ _ _ _).trans (by decide))
theorem fsq (rs1 rs2 : RegIdx) (imm : BitVec 12) : Statement (.fsq rs1 rs2 imm) :=
  of_word rfl ((low_mkS _ _ _ _ _).trans (by decide))
theorem fcvtSW (rd rs1 : RegIdx) (rm : BitVec 3) : Statement (.fcvtSW rd rs1 rm) :=
  of_word rfl ((low_mkR4 _ _ _ _ _ _ _).trans (by decide))
theorem fcvtDW (rd rs1 : RegIdx) (rm : BitVec 3) : Statement (.fcvtDW rd rs1 rm) :=
  of_word rfl ((low_mkR4 _ _ _ _ _ _ _).trans (by decide))
theorem fcvtQW (rd rs1 : RegIdx) (rm : BitVec 3) : Statement (.fcvtQW rd rs1 rm) :=
  of_word rfl ((low_mkR4 _ _ _ _ _ _ _).trans (by decide))
theorem fcvtSWU (rd rs1 : RegIdx) (rm : BitVec 3) : Statement (.fcvtSWU rd rs1 rm) :=
  of_word rfl ((low_mkR4 _ _ _ _ _ _ _).trans (by decide))
theorem fcvtDWU (rd rs1 : RegIdx) (rm : BitVec 3) : Statement (.fcvtDWU rd rs1 rm) :=
  of_word rfl ((low_mkR4 _ _ _ _ _ _ _).trans (by decide))
theorem fcvtQWU (rd rs1 : RegIdx) (rm : BitVec 3) : Statement (.fcvtQWU rd rs1 rm) :=
  of_word rfl ((low_mkR4 _ _ _ _ _ _ _).trans (by decide))
theorem fcvtSL (rd rs1 : RegIdx) (rm : BitVec 3) : Statement (.fcvtSL rd rs1 rm) :=
  of_word rfl ((low_mkR4 _ _ _ _ _ _ _).trans (by decide))
theorem fcvtDL (rd rs1 : RegIdx) (rm : BitVec 3) : Statement (.fcvtDL rd rs1 rm) :=
  of_word rfl ((low_mkR4 _ _ _ _ _ _ _).trans (by decide))
theorem fcvtQL (rd rs1 : RegIdx) (rm : BitVec 3) : Statement (.fcvtQL rd rs1 rm) :=
  of_word rfl ((low_mkR4 _ _ _ _ _ _ _).trans (by decide))
theorem fcvtSLU (rd rs1 : RegIdx) (rm : BitVec 3) : Statement (.fcvtSLU rd rs1 rm) :=
  of_word rfl ((low_mkR4 _ _ _ _ _ _ _).trans (by decide))
theorem fcvtDLU (rd rs1 : RegIdx) (rm : BitVec 3) : Statement (.fcvtDLU rd rs1 rm) :=
  of_word rfl ((low_mkR4 _ _ _ _ _ _ _).trans (by decide))
theorem fcvtQLU (rd rs1 : RegIdx) (rm : BitVec 3) : Statement (.fcvtQLU rd rs1 rm) :=
  of_word rfl ((low_mkR4 _ _ _ _ _ _ _).trans (by decide))
theorem fcvtWS (rd rs1 : RegIdx) (rm : BitVec 3) : Statement (.fcvtWS rd rs1 rm) :=
  of_word rfl ((low_mkR4 _ _ _ _ _ _ _).trans (by decide))
theorem fcvtWD (rd rs1 : RegIdx) (rm : BitVec 3) : Statement (.fcvtWD rd rs1 rm) :=
  of_word rfl ((low_mkR4 _ _ _ _ _ _ _).trans (by decide))
theorem fcvtWQ (rd rs1 : RegIdx) (rm : BitVec 3) : Statement (.fcvtWQ rd rs1 rm) :=
  of_word rfl ((low_mkR4 _ _ _ _ _ _ _).trans (by decide))
theorem fcvtWUS (rd rs1 : RegIdx) (rm : BitVec 3) : Statement (.fcvtWUS rd rs1 rm) :=
  of_word rfl ((low_mkR4 _ _ _ _ _ _ _).trans (by decide))
theorem fcvtWUD (rd rs1 : RegIdx) (rm : BitVec 3) : Statement (.fcvtWUD rd rs1 rm) :=
  of_word rfl ((low_mkR4 _ _ _ _ _ _ _).trans (by decide))
theorem fcvtWUQ (rd rs1 : RegIdx) (rm : BitVec 3) : Statement (.fcvtWUQ rd rs1 rm) :=
  of_word rfl ((low_mkR4 _ _ _ _ _ _ _).trans (by decide))
theorem fcvtLS (rd rs1 : RegIdx) (rm : BitVec 3) : Statement (.fcvtLS rd rs1 rm) :=
  of_word rfl ((low_mkR4 _ _ _ _ _ _ _).trans (by decide))
theorem fcvtLD (rd rs1 : RegIdx) (rm : BitVec 3) : Statement (.fcvtLD rd rs1 rm) :=
  of_word rfl ((low_mkR4 _ _ _ _ _ _ _).trans (by decide))
theorem fcvtLQ (rd rs1 : RegIdx) (rm : BitVec 3) : Statement (.fcvtLQ rd rs1 rm) :=
  of_word rfl ((low_mkR4 _ _ _ _ _ _ _).trans (by decide))
theorem fcvtLUS (rd rs1 : RegIdx) (rm : BitVec 3) : Statement (.fcvtLUS rd rs1 rm) :=
  of_word rfl ((low_mkR4 _ _ _ _ _ _ _).trans (by decide))
theorem fcvtLUD (rd rs1 : RegIdx) (rm : BitVec 3) : Statement (.fcvtLUD rd rs1 rm) :=
  of_word rfl ((low_mkR4 _ _ _ _ _ _ _).trans (by decide))
theorem fcvtLUQ (rd rs1 : RegIdx) (rm : BitVec 3) : Statement (.fcvtLUQ rd rs1 rm) :=
  of_word rfl ((low_mkR4 _ _ _ _ _ _ _).trans (by decide))
theorem fcvtSD (rd rs1 : RegIdx) (rm : BitVec 3) : Statement (.fcvtSD rd rs1 rm) :=
  of_word rfl ((low_mkR4 _ _ _ _ _ _ _).trans (by decide))
theorem fcvtDS (rd rs1 : RegIdx) (rm : BitVec 3) : Statement (.fcvtDS rd rs1 rm) :=
  of_word rfl ((low_mkR4 _ _ _ _ _ _ _).trans (by decide))
theorem fcvtSQ (rd rs1 : RegIdx) (rm : BitVec 3) : Statement (.fcvtSQ rd rs1 rm) :=
  of_word rfl ((low_mkR4 _ _ _ _ _ _ _).trans (by decide))
theorem fcvtQS (rd rs1 : RegIdx) (rm : BitVec 3) : Statement (.fcvtQS rd rs1 rm) :=
  of_word rfl ((low_mkR4 _ _ _ _ _ _ _).trans (by decide))
theorem fcvtDQ (rd rs1 : RegIdx) (rm : BitVec 3) : Statement (.fcvtDQ rd rs1 rm) :=
  of_word rfl ((low_mkR4 _ _ _ _ _ _ _).trans (by decide))
theorem fcvtQD (rd rs1 : RegIdx) (rm : BitVec 3) : Statement (.fcvtQD rd rs1 rm) :=
  of_word rfl ((low_mkR4 _ _ _ _ _ _ _).trans (by decide))
theorem faddS (rd rs1 rs2 : RegIdx) (rm : BitVec 3) : Statement (.faddS rd rs1 rs2 rm) :=
  of_word rfl ((low_mkR4 _ _ _ _ _ _ _).trans (by decide))
theorem faddD (rd rs1 rs2 : RegIdx) (rm : BitVec 3) : Statement (.faddD rd rs1 rs2 rm) :=
  of_word rfl ((low_mkR4 _ _ _ _ _ _ _).trans (by decide))
theorem faddQ (rd rs1 rs2 : RegIdx) (rm : BitVec 3) : Statement (.faddQ rd rs1 rs2 rm) :=
  of_word rfl ((low_mkR4 _ _ _ _ _ _ _).trans (by decide))
theorem fsubS (rd rs1 rs2 : RegIdx) (rm : BitVec 3) : Statement (.fsubS rd rs1 rs2 rm) :=
  of_word rfl ((low_mkR4 _ _ _ _ _ _ _).trans (by decide))
theorem fsubD (rd rs1 rs2 : RegIdx) (rm : BitVec 3) : Statement (.fsubD rd rs1 rs2 rm) :=
  of_word rfl ((low_mkR4 _ _ _ _ _ _ _).trans (by decide))
theorem fsubQ (rd rs1 rs2 : RegIdx) (rm : BitVec 3) : Statement (.fsubQ rd rs1 rs2 rm) :=
  of_word rfl ((low_mkR4 _ _ _ _ _ _ _).trans (by decide))
theorem fmulS (rd rs1 rs2 : RegIdx) (rm : BitVec 3) : Statement (.fmulS rd rs1 rs2 rm) :=
  of_word rfl ((low_mkR4 _ _ _ _ _ _ _).trans (by decide))
theorem fmulD (rd rs1 rs2 : RegIdx) (rm : BitVec 3) : Statement (.fmulD rd rs1 rs2 rm) :=
  of_word rfl ((low_mkR4 _ _ _ _ _ _ _).trans (by decide))
theorem fmulQ (rd rs1 rs2 : RegIdx) (rm : BitVec 3) : Statement (.fmulQ rd rs1 rs2 rm) :=
  of_word rfl ((low_mkR4 _ _ _ _ _ _ _).trans (by decide))
theorem fdivS (rd rs1 rs2 : RegIdx) (rm : BitVec 3) : Statement (.fdivS rd rs1 rs2 rm) :=
  of_word rfl ((low_mkR4 _ _ _ _ _ _ _).trans (by decide))
theorem fdivD (rd rs1 rs2 : RegIdx) (rm : BitVec 3) : Statement (.fdivD rd rs1 rs2 rm) :=
  of_word rfl ((low_mkR4 _ _ _ _ _ _ _).trans (by decide))
theorem fdivQ (rd rs1 rs2 : RegIdx) (rm : BitVec 3) : Statement (.fdivQ rd rs1 rs2 rm) :=
  of_word rfl ((low_mkR4 _ _ _ _ _ _ _).trans (by decide))
theorem fsqrtS (rd rs1 : RegIdx) (rm : BitVec 3) : Statement (.fsqrtS rd rs1 rm) :=
  of_word rfl ((low_mkR4 _ _ _ _ _ _ _).trans (by decide))
theorem fsqrtD (rd rs1 : RegIdx) (rm : BitVec 3) : Statement (.fsqrtD rd rs1 rm) :=
  of_word rfl ((low_mkR4 _ _ _ _ _ _ _).trans (by decide))
theorem fsqrtQ (rd rs1 : RegIdx) (rm : BitVec 3) : Statement (.fsqrtQ rd rs1 rm) :=
  of_word rfl ((low_mkR4 _ _ _ _ _ _ _).trans (by decide))
theorem fmaddS (rd rs1 rs2 rs3 : RegIdx) (rm : BitVec 3) : Statement (.fmaddS rd rs1 rs2 rs3 rm) :=
  of_word rfl ((low_mkR4 _ _ _ _ _ _ _).trans (by decide))
theorem fmaddD (rd rs1 rs2 rs3 : RegIdx) (rm : BitVec 3) : Statement (.fmaddD rd rs1 rs2 rs3 rm) :=
  of_word rfl ((low_mkR4 _ _ _ _ _ _ _).trans (by decide))
theorem fmaddQ (rd rs1 rs2 rs3 : RegIdx) (rm : BitVec 3) : Statement (.fmaddQ rd rs1 rs2 rs3 rm) :=
  of_word rfl ((low_mkR4 _ _ _ _ _ _ _).trans (by decide))
theorem fmsubS (rd rs1 rs2 rs3 : RegIdx) (rm : BitVec 3) : Statement (.fmsubS rd rs1 rs2 rs3 rm) :=
  of_word rfl ((low_mkR4 _ _ _ _ _ _ _).trans (by decide))
theorem fmsubD (rd rs1 rs2 rs3 : RegIdx) (rm : BitVec 3) : Statement (.fmsubD rd rs1 rs2 rs3 rm) :=
  of_word rfl ((low_mkR4 _ _ _ _ _ _ _).trans (by decide))
theorem fmsubQ (rd rs1 rs2 rs3 : RegIdx) (rm : BitVec 3) : Statement (.fmsubQ rd rs1 rs2 rs3 rm) :=
  of_word rfl ((low_mkR4 _ _ _ _ _ _ _).trans (by decide))
theorem fnmsubS (rd rs1 rs2 rs3 : RegIdx) (rm : BitVec 3) : Statement (.fnmsubS rd rs1 rs2 rs3 rm) :=
  of_word rfl ((low_mkR4 _ _ _ _ _ _ _).trans (by decide))
theorem fnmsubD (rd rs1 rs2 rs3 : RegIdx) (rm : BitVec 3) : Statement (.fnmsubD rd rs1 rs2 rs3 rm) :=
  of_word rfl ((low_mkR4 _ _ _ _ _ _ _).trans (by decide))
theorem fnmsubQ (rd rs1 rs2 rs3 : RegIdx) (rm : BitVec 3) : Statement (.fnmsubQ rd rs1 rs2 rs3 rm) :=
  of_word rfl ((low_mkR4 _ _ _ _ _ _ _).trans (by decide))
theorem fnmaddS (rd rs1 rs2 rs3 : RegIdx) (rm : BitVec 3) : Statement (.fnmaddS rd rs1 rs2 rs3 rm) :=
  of_word rfl ((low_mkR4 _ _ _ _ _ _ _).trans (by decide))
theorem fnmaddD (rd rs1 rs2 rs3 : RegIdx) (rm : BitVec 3) : Statement (.fnmaddD rd rs1 rs2 rs3 rm) :=
  of_word rfl ((low_mkR4 _ _ _ _ _ _ _).trans (by decide))
theorem fnmaddQ (rd rs1 rs2 rs3 : RegIdx) (rm : BitVec 3) : Statement (.fnmaddQ rd rs1 rs2 rs3 rm) :=
  of_word rfl ((low_mkR4 _ _ _ _ _ _ _).trans (by decide))
theorem fsgnjS (rd rs1 rs2 : RegIdx) : Statement (.fsgnjS rd rs1 rs2) :=
  of_word rfl ((low_mkR4 _ _ _ _ _ _ _).trans (by decide))
theorem fsgnjD (rd rs1 rs2 : RegIdx) : Statement (.fsgnjD rd rs1 rs2) :=
  of_word rfl ((low_mkR4 _ _ _ _ _ _ _).trans (by decide))
theorem fsgnjQ (rd rs1 rs2 : RegIdx) : Statement (.fsgnjQ rd rs1 rs2) :=
  of_word rfl ((low_mkR4 _ _ _ _ _ _ _).trans (by decide))
theorem fsgnjnS (rd rs1 rs2 : RegIdx) : Statement (.fsgnjnS rd rs1 rs2) :=
  of_word rfl ((low_mkR4 _ _ _ _ _ _ _).trans (by decide))
theorem fsgnjnD (rd rs1 rs2 : RegIdx) : Statement (.fsgnjnD rd rs1 rs2) :=
  of_word rfl ((low_mkR4 _ _ _ _ _ _ _).trans (by decide))
theorem fsgnjnQ (rd rs1 rs2 : RegIdx) : Statement (.fsgnjnQ rd rs1 rs2) :=
  of_word rfl ((low_mkR4 _ _ _ _ _ _ _).trans (by decide))
theorem fsgnjxS (rd rs1 rs2 : RegIdx) : Statement (.fsgnjxS rd rs1 rs2) :=
  of_word rfl ((low_mkR4 _ _ _ _ _ _ _).trans (by decide))
theorem fsgnjxD (rd rs1 rs2 : RegIdx) : Statement (.fsgnjxD rd rs1 rs2) :=
  of_word rfl ((low_mkR4 _ _ _ _ _ _ _).trans (by decide))
theorem fsgnjxQ (rd rs1 rs2 : RegIdx) : Statement (.fsgnjxQ rd rs1 rs2) :=
  of_word rfl ((low_mkR4 _ _ _ _ _ _ _).trans (by decide))
theorem fminS (rd rs1 rs2 : RegIdx) : Statement (.fminS rd rs1 rs2) :=
  of_word rfl ((low_mkR4 _ _ _ _ _ _ _).trans (by decide))
theorem fminD (rd rs1 rs2 : RegIdx) : Statement (.fminD rd rs1 rs2) :=
  of_word rfl ((low_mkR4 _ _ _ _ _ _ _).trans (by decide))
theorem fminQ (rd rs1 rs2 : RegIdx) : Statement (.fminQ rd rs1 rs2) :=
  of_word rfl ((low_mkR4 _ _ _ _ _ _ _).trans (by decide))
theorem fmaxS (rd rs1 rs2 : RegIdx) : Statement (.fmaxS rd rs1 rs2) :=
  of_word rfl ((low_mkR4 _ _ _ _ _ _ _).trans (by decide))
theorem fmaxD (rd rs1 rs2 : RegIdx) : Statement (.fmaxD rd rs1 rs2) :=
  of_word rfl ((low_mkR4 _ _ _ _ _ _ _).trans (by decide))
theorem fmaxQ (rd rs1 rs2 : RegIdx) : Statement (.fmaxQ rd rs1 rs2) :=
  of_word rfl ((low_mkR4 _ _ _ _ _ _ _).trans (by decide))
theorem feqS (rd rs1 rs2 : RegIdx) : Statement (.feqS rd rs1 rs2) :=
  of_word rfl ((low_mkR4 _ _ _ _ _ _ _).trans (by decide))
theorem feqD (rd rs1 rs2 : RegIdx) : Statement (.feqD rd rs1 rs2) :=
  of_word rfl ((low_mkR4 _ _ _ _ _ _ _).trans (by decide))
theorem feqQ (rd rs1 rs2 : RegIdx) : Statement (.feqQ rd rs1 rs2) :=
  of_word rfl ((low_mkR4 _ _ _ _ _ _ _).trans (by decide))
theorem fltS (rd rs1 rs2 : RegIdx) : Statement (.fltS rd rs1 rs2) :=
  of_word rfl ((low_mkR4 _ _ _ _ _ _ _).trans (by decide))
theorem fltD (rd rs1 rs2 : RegIdx) : Statement (.fltD rd rs1 rs2) :=
  of_word rfl ((low_mkR4 _ _ _ _ _ _ _).trans (by decide))
theorem fltQ (rd rs1 rs2 : RegIdx) : Statement (.fltQ rd rs1 rs2) :=
  of_word rfl ((low_mkR4 _ _ _ _ _ _ _).trans (by decide))
theorem fleS (rd rs1 rs2 : RegIdx) : Statement (.fleS rd rs1 rs2) :=
  of_word rfl ((low_mkR4 _ _ _ _ _ _ _).trans (by decide))
theorem fleD (rd rs1 rs2 : RegIdx) : Statement (.fleD rd rs1 rs2) :=
  of_word rfl ((low_mkR4 _ _ _ _ _ _ _).trans (by decide))
theorem fleQ (rd rs1 rs2 : RegIdx) : Statement (.fleQ rd rs1 rs2) :=
  of_word rfl ((low_mkR4 _ _ _ _ _ _ _).trans (by decide))
theorem fclassS (rd rs1 : RegIdx) : Statement (.fclassS rd rs1) :=
  of_word rfl ((low_mkR4 _ _ _ _ _ _ _).trans (by decide))
theorem fclassD (rd rs1 : RegIdx) : Statement (.fclassD rd rs1) :=
  of_word rfl ((low_mkR4 _ _ _ _ _ _ _).trans (by decide))
theorem fclassQ (rd rs1 : RegIdx) : Statement (.fclassQ rd rs1) :=
  of_word rfl ((low_mkR4 _ _ _ _ _ _ _).trans (by decide))
theorem frcsr (rd : RegIdx) : Statement (.frcsr rd) :=
  of_word rfl ((low_mkI _ _ _ _ _).trans (by decide))
theorem frrm (rd : RegIdx) : Statement (.frrm rd) :=
  of_word rfl ((low_mkI _ _ _ _ _).trans (by decide))
theorem frflags (rd : RegIdx) : Statement (.frflags rd) :=
  of_word rfl ((low_mkI _ _ _ _ _).trans (by decide))
theorem fscsr (rd rs1 : RegIdx) : Statement (.fscsr rd rs1) :=
  of_word rfl ((low_mkI _ _ _ _ _).trans (by decide))
theorem fsrm (rd rs1 : RegIdx) : Statement (.fsrm rd rs1) :=
  of_word rfl ((low_mkI _ _ _ _ _).trans (by decide))
theorem fsflags (rd rs1 : RegIdx) : Statement (.fsflags rd rs1) :=
  of_word rfl ((low_mkI _ _ _ _ _).trans (by decide))
theorem fsrmi (rd : RegIdx) (zimm : BitVec 5) : Statement (.fsrmi rd zimm) :=
  of_word rfl ((low_mkI _ _ _ _ _).trans (by decide))
theorem fsflagsi (rd : RegIdx) (zimm : BitVec 5) : Statement (.fsflagsi rd zimm) :=
  of_word rfl ((low_mkI _ _ _ _ _).trans (by decide))

end Sys2Proof.Laws.EncodesItsLength
end

