-- ==== Sys2Proof/Laws/Values.lean ====
section
/-! SUPPORT. The values of `XLEN` bits as numbers: what truncation and extension do to `unsigned` and
`signed` (R12). -/

namespace Sys2Proof.Machine

/-- A truncated value as an integer modulo 2^`XLEN`. -/
theorem xtrunc_toNat_int (x : Xlen) (v : Word) : ((xtrunc x v).toNat : Int) = v.toInt % (2 ^ x.bits : Nat) := by
  rw [xtrunc_toNat, BitVec.toInt_eq_toNat_cond]
  have := v.isLt
  cases x <;> simp only [Xlen.bits] <;> split <;> omega

/-- `sext_XLEN` of a string of at most 64 bits (R12). -/
theorem xsext_toNat {n : Nat} (hn : n ≤ 64) (x : Xlen) (v : BitVec n) :
    ((xsext x v).toNat : Int) = v.toInt % (2 ^ x.bits : Nat) := by
  rw [xsext, xtrunc_toNat_int, BitVec.toInt_signExtend_of_le hn]

/-- `zext_XLEN` of a string of at most 32 bits (R12). -/
theorem xzext_toNat {n : Nat} (hn : n ≤ 32) (x : Xlen) (v : BitVec n) : (xzext x v).toNat = v.toNat := by
  have h1 : 2 ^ n ≤ 2 ^ 32 := Nat.pow_le_pow_right (by decide) hn
  have h2 := v.isLt
  rw [xzext, xtrunc_toNat, BitVec.toNat_setWidth]
  cases x <;> simp only [Xlen.bits] <;> omega

/-- `signed` from `unsigned` (R12). -/
theorem xsigned_eq (x : Xlen) (v : Word) : xsigned x v = (v.toNat : Int).bmod (2 ^ x.bits) := by
  have := v.isLt
  cases x <;> simp only [xsigned, Xlen.bits, BitVec.toInt_eq_toNat_bmod, BitVec.toNat_setWidth]
  simp only [Int.bmod_def]
  omega

@[simp] theorem xsigned_xtrunc (x : Xlen) (v : Word) : xsigned x (xtrunc x v) = xsigned x v := by
  rw [xsigned_eq, xsigned_eq, xtrunc_toNat]
  cases x <;> simp only [Xlen.bits, Int.bmod_def] <;> omega

/-- `signed` of a sign-extended string is its own signed value, if it is no wider than `XLEN` (R12). -/
theorem xsigned_xsext {n : Nat} {x : Xlen} (hn : n ≤ x.bits) (v : BitVec n) : xsigned x (xsext x v) = v.toInt := by
  have h64 : n ≤ 64 := hn.trans (by cases x <;> decide)
  rw [xsext, xsigned_xtrunc, xsigned_eq]
  have h := BitVec.toInt_signExtend_of_le (x := v) h64
  rw [BitVec.toInt_eq_toNat_bmod] at h
  cases x
  · simp only [Xlen.bits] at *
    have h1 : -(2:Int)^31 ≤ v.toInt ∧ v.toInt < 2^31 := by
      have hp : (2:Int)^(n-1) ≤ 2^31 := by
        exact pow_le_pow_right₀ (by decide) (by omega)
      constructor
      · have := BitVec.le_toInt v; omega
      · have := BitVec.toInt_lt (x := v); omega
    simp only [Int.bmod_def] at *
    omega
  · exact h

/-- `signed` of an integer cut to `XLEN` bits (R12). -/
theorem xsigned_xofInt (x : Xlen) (i : Int) : xsigned x (xofInt x i) = i.bmod (2 ^ x.bits) := by
  rw [xofInt, xsigned_xtrunc, xsigned_eq, BitVec.toNat_ofInt]
  cases x <;> simp only [Xlen.bits, Int.bmod_def] <;> omega

end Sys2Proof.Machine
end

