-- ==== Sys2Proof/Machine/Pseudo.lean ====
section
/-! DEFINITION. The customary pseudo-instructions whose one instruction R128 gives. The alias rows of the
opcode table are constructors of `Instr`; these have no row. -/

namespace Sys2Proof.Machine

/-- R128: a pseudo-instruction that is not on the card and stands for one instruction. -/
inductive Pseudo where
  | nop
  | mv (rd rs : RegIdx)
  | not (rd rs : RegIdx)
  | neg (rd rs : RegIdx)
  | seqz (rd rs : RegIdx)
  | snez (rd rs : RegIdx)
  | j (off : BitVec 21)
  | jr (rs : RegIdx)
  | ret
  | beqz (rs : RegIdx) (off : BitVec 13)
  | bnez (rs : RegIdx) (off : BitVec 13)
  | bgt (rs rt : RegIdx) (off : BitVec 13)
  | ble (rs rt : RegIdx) (off : BitVec 13)
  | bgtu (rs rt : RegIdx) (off : BitVec 13)
  | bleu (rs rt : RegIdx) (off : BitVec 13)
  | fmvS (rd rs : RegIdx)
  | fabsS (rd rs : RegIdx)
  | fnegS (rd rs : RegIdx)
  deriving DecidableEq, Repr

/-- The instruction that a pseudo-instruction stands for (R128); `ra` is `x1`. -/
def Pseudo.expand (p : Pseudo) : Instr :=
  match p with
  | .nop => .addi 0#5 0#5 0#12
  | .mv rd rs => .addi rd rs 0#12
  | .not rd rs => .xori rd rs (BitVec.ofInt 12 (-1))
  | .neg rd rs => .sub rd 0#5 rs
  | .seqz rd rs => .sltiu rd rs 1#12
  | .snez rd rs => .sltu rd 0#5 rs
  | .j off => .jal 0#5 off
  | .jr rs => .jalr 0#5 rs 0#12
  | .ret => .jalr 0#5 1#5 0#12
  | .beqz rs off => .beq rs 0#5 off
  | .bnez rs off => .bne rs 0#5 off
  | .bgt rs rt off => .blt rt rs off
  | .ble rs rt off => .bge rt rs off
  | .bgtu rs rt off => .bltu rt rs off
  | .bleu rs rt off => .bgeu rt rs off
  | .fmvS rd rs => .fsgnjS rd rs rs
  | .fabsS rd rs => .fsgnjxS rd rs rs
  | .fnegS rd rs => .fsgnjnS rd rs rs

end Sys2Proof.Machine
end

