-- ==== Sys2Proof/Tests/Slice0.lean ====
section
/-! SUPPORT. The model's own tests: ill-formed terms that WellFormed refuses, words written out from
the spec's encodings, one step of most instructions with the spec's own expected values (the vectors of
spec/95 to spec/99, cited by file and line), and for every obligation with hypotheses a witness that
meets them. -/

namespace Sys2Proof.Tests

open Sys2Proof Sys2Proof.Machine

/-! ### Helpers -/

/-- An extension set from its letters. -/
def exts (l : List Letter) : ExtSet :=
  ⟨l.contains .M, l.contains .A, l.contains .F, l.contains .D, l.contains .Q, l.contains .C⟩

/-- A configuration with the memory map of the vectors: code at 0x1000, data at 0x2000. -/
def cfgOf (x : Xlen) (e : List Letter) (code : Nat) : Config :=
  { Config.standard with
    xlen := x
    ext := exts e
    wfiMode := .refuse
    memMap := [⟨code, 0x1000, true, false, true⟩, ⟨0x2000, 0x100, true, true, false⟩] }

/-- Consecutive bytes of memory. -/
def poke : Memory → Nat → List Nat → Memory
  | m, _, [] => m
  | m, a, b :: rest => poke (m.write a (BitVec.ofNat 8 b)) (a + 1) rest

/-- The starting state of a vector: one word at the pc, the registers and the bytes it lists. -/
def vec (x : Xlen) (e : List Letter) (nbits w : Nat) (xs : List (Nat × Nat)) (fs : List (Nat × Nat) := [])
    (pc : Nat := 0x1000) (fcsr : Nat := 0) (mem : List (Nat × List Nat) := [])
    (res : Option Reservation := none) : State :=
  let code := if pc / 0x1000 = 1 then 0x1000 else pc - pc % 0x1000
  let word := (List.range (nbits / 8)).map fun k => w / 2 ^ (8 * k) % 256
  let s : State :=
    { State.reset with
      cfg := cfgOf x e code
      pc := BitVec.ofNat 64 pc
      fcsr := BitVec.ofNat 8 fcsr
      mem := mem.foldl (fun m p => poke m p.1 p.2) (poke [] pc word)
      reservation := res }
  let s := xs.foldl (fun s p => s.writeX (BitVec.ofNat 5 p.1) (BitVec.ofNat 64 p.2)) s
  fs.foldl (fun s p => s.writeF (BitVec.ofNat 5 p.1) (BitVec.ofNat 128 p.2)) s

/-- What a test looks at. -/
inductive Probe where
  | x (r : Nat)
  | f (r : Nat)
  | fcsr
  | pc
  | bytes (a n : Nat)
  | held

/-- A probed value. -/
def Probe.of (t : State) : Probe → Nat
  | .x r => (t.readX (BitVec.ofNat 5 r)).toNat
  | .f r => (t.readF (BitVec.ofNat 5 r)).toNat
  | .fcsr => t.fcsr.toNat
  | .pc => t.pc.toNat
  | .bytes a n => t.readBytes (BitVec.ofNat 64 a) n
  | .held => (t.reservation.map (·.size)).getD 0

/-- The probed values after one step, if it completes. -/
def after (s : State) (ps : List Probe) : Option (List Nat) :=
  match step s with
  | .next t => some (ps.map (Probe.of t))
  | _ => none

/-- How a step that does not complete ends. -/
def ends (s : State) : Option (Fault ⊕ Refusal) :=
  match step s with
  | .next _ => none
  | .fault e => some (.inl e)
  | .refused r => some (.inr r)

/-! ### WellFormed: an ill-formed term for each check -/

theorem test_wf_only64 : Instr.wellFormed (cfgOf .rv32 [] 0) (.ld 1#5 2#5 0#12) = false := by decide
theorem test_wf_only32 : Instr.wellFormed (cfgOf .rv64 [.C] 0) (.cJal 4#12) = false := by decide
theorem test_wf_letter : Instr.wellFormed (cfgOf .rv64 [.A] 0) (.mul 1#5 2#5 3#5) = false := by decide
theorem test_wf_two_letters : Instr.wellFormed (cfgOf .rv32 [.C] 0) (.cFlw 1#3 2#3 4#7) = false := by decide
theorem test_wf_offcard :
    Instr.wellFormed { cfgOf .rv64 [] 0 with offCard := .off } (.subw 1#5 2#5 3#5) = false := by decide
theorem test_wf_shamt : Instr.wellFormed (cfgOf .rv32 [] 0) (.slli 1#5 2#5 32#6) = false := by decide
theorem test_wf_low_zero_1 : Instr.wellFormed (cfgOf .rv32 [] 0) (.beq 1#5 2#5 3#13) = false := by decide
theorem test_wf_low_zero_2 : Instr.wellFormed (cfgOf .rv32 [.C] 0) (.cLw 1#3 2#3 2#7) = false := by decide
theorem test_wf_low_zero_3 : Instr.wellFormed (cfgOf .rv64 [.C] 0) (.cLd 1#3 2#3 4#8) = false := by decide
theorem test_wf_low_zero_4 : Instr.wellFormed (cfgOf .rv32 [.C] 0) (.cAddi16sp 8#10) = false := by decide
theorem test_wf_rd_zero : Instr.wellFormed (cfgOf .rv32 [.C] 0) (.cLwsp 0#5 4#8) = false := by decide
theorem test_wf_rs2_zero : Instr.wellFormed (cfgOf .rv32 [.C] 0) (.cMv 1#5 0#5) = false := by decide
theorem test_wf_rs1_zero : Instr.wellFormed (cfgOf .rv32 [.C] 0) (.cJr 0#5) = false := by decide
theorem test_wf_rd_two : Instr.wellFormed (cfgOf .rv32 [.C] 0) (.cLui 2#5 1#6) = false := by decide
theorem test_wf_imm_zero : Instr.wellFormed (cfgOf .rv32 [.C] 0) (.cLui 1#5 0#6) = false := by decide

/-- A launch is refused outside R9: `Q` without `D`, and an address the map does not have room for. -/
theorem test_config_closed : configAdmitted { Config.standard with ext := exts [.F, .Q] } = false := by decide
theorem test_config_map :
    configAdmitted { cfgOf .rv32 [] 0 with memMap := [⟨2 ^ 32 - 4, 8, true, true, true⟩] } = false := by decide

/-- R477, R33: without F there is no `fcsr`, also where `CsrExtra` lists its number. -/
theorem test_frcsr_without_f :
    ends { vec .rv64 [] 32 0x003022F3 [] with cfg := { cfgOf .rv64 [] 0x1000 with csrExtra := [⟨3#12, 0xFF⟩] } } =
      some (.inl (.illegalInstruction 0x003022F3)) := by decide

/-- R3, R8, R600, R637: a launch asking for V, and the T forms in half precision, are refused. -/
theorem test_launch_letter :
    Launch.start { Launch.standard with future := [.V] } = .refused (.unsupported "V") := rfl
theorem test_half_precision_t_forms :
    assemblyRefusal "FCVT.H.T" = some (.notEncoded "FCVT.H.T") ∧
      assemblyRefusal "FCVT.TU.H" = some (.notEncoded "FCVT.TU.H") ∧ assemblyRefusal "FCVT.S.W" = none := by
  decide

/-- R67, R625: AMOXOR.Q is refused with the other `AMO*.Q` (log entry 17). -/
theorem test_amoxor_quad : assemblyRefusal "AMOXOR.Q" = some (.notEncoded "AMOXOR.Q") := by decide

/-- R132, R484, ruling C11: with `OFFCARD = off` the words of C.ADDI16SP and FSFLAGSI are illegal, and
those of FSFLAGS and FSRMI are not. -/
theorem test_offcard_words :
    let off : Config := { Config.standard with offCard := .off }
    decode off (.half 0x713D) = .error (.notInConfiguration 0x713D) ∧
      decode off (.word 0x001052F3) = .error (.notInConfiguration 0x001052F3) ∧
      decode off (.word 0x001312F3) = .ok (.csrrw 5#5 1#12 6#5) ∧
      decode off (.word 0x0020D2F3) = .ok (.csrrwi 5#5 2#12 1#5) := by decide

/-- D15: after LR.D an SC.W of the same address fails: `x5` is 1. -/
theorem test_sc_other_size :
    after (vec .rv64 [.A] 32 0x187322AF [(6, 0x2000), (7, 9)] (res := some ⟨0x2000, 8⟩)) [.x 5, .bytes 0x2000 4] =
      some [1, 0] := by decide

/-- Words without a row are refused by name. -/
theorem test_decode_no_row : decode Config.standard (.word 0x0000705B) = .error (.noRow32 0x0000705B) := by
  decide
theorem test_decode_long : decode Config.standard (.word 0x0000001F) = .error (.longerThan32 0x0000001F) := by
  decide
theorem test_decode_zero : decode Config.standard (.half 0) = .error (.notInConfiguration 0) := by decide
theorem test_decode_reserved : decode Config.standard (.half 0x8000) = .error (.noRow16 0x8000) := by decide
theorem test_decode_width : decode (cfgOf .rv32 [] 0) (.word 0x00033283) = .error (.notInConfiguration 0x00033283) := by
  decide

/-! ### Decoding: one word for every row that is no alias, written out from the row's fields -/

/-- Each word decodes to the instruction beside it. -/
def decodesAll (nbits : Nat) (rows : List (Nat × Instr)) : Bool :=
  rows.all fun p => decodeTableWord nbits p.1 == some p.2

/-- The same for 16-bit words that stand for another instruction on RV64. -/
def decodesAll32 (rows : List (BitVec 16 × Instr)) : Bool :=
  rows.all fun p => decode { Config.standard with xlen := .rv32 } (.half p.1) == .ok p.2

theorem test_decode_base_1 :
    decodesAll 32
      [(0x99730283, .lb 5#5 6#5 0x997#12), (0x99731283, .lh 5#5 6#5 0x997#12),
        (0x99732283, .lw 5#5 6#5 0x997#12), (0x99734283, .lbu 5#5 6#5 0x997#12),
        (0x99735283, .lhu 5#5 6#5 0x997#12), (0x99733283, .ld 5#5 6#5 0x997#12),
        (0x99736283, .lwu 5#5 6#5 0x997#12), (0x98730BA3, .sb 6#5 7#5 0x997#12),
        (0x98731BA3, .sh 6#5 7#5 0x997#12), (0x98732BA3, .sw 6#5 7#5 0x997#12),
        (0x98733BA3, .sd 6#5 7#5 0x997#12), (0x007312B3, .sll 5#5 6#5 7#5),
        (0x01631293, .slli 5#5 6#5 0x16#6), (0x007352B3, .srl 5#5 6#5 7#5),
        (0x01635293, .srli 5#5 6#5 0x16#6), (0x407352B3, .sra 5#5 6#5 7#5),
        (0x41635293, .srai 5#5 6#5 0x16#6), (0x007312BB, .sllw 5#5 6#5 7#5),
        (0x0173129B, .slliw 5#5 6#5 0x17#5), (0x007352BB, .srlw 5#5 6#5 7#5),
        (0x0173529B, .srliw 5#5 6#5 0x17#5), (0x407352BB, .sraw 5#5 6#5 7#5),
        (0x4173529B, .sraiw 5#5 6#5 0x17#5), (0x007302B3, .add 5#5 6#5 7#5)] = true := by
  decide

theorem test_decode_base_2 :
    decodesAll 32
      [(0x99730293, .addi 5#5 6#5 0x997#12), (0x407302B3, .sub 5#5 6#5 7#5),
        (0x007302BB, .addw 5#5 6#5 7#5), (0x9973029B, .addiw 5#5 6#5 0x997#12),
        (0x407302BB, .subw 5#5 6#5 7#5), (0xCE9972B7, .lui 5#5 0xce997#20),
        (0xCE997297, .auipc 5#5 0xce997#20), (0x007342B3, .xor 5#5 6#5 7#5),
        (0x99734293, .xori 5#5 6#5 0x997#12), (0x007362B3, .or 5#5 6#5 7#5),
        (0x99736293, .ori 5#5 6#5 0x997#12), (0x007372B3, .and 5#5 6#5 7#5),
        (0x99737293, .andi 5#5 6#5 0x997#12), (0x007322B3, .slt 5#5 6#5 7#5),
        (0x99732293, .slti 5#5 6#5 0x997#12), (0x007332B3, .sltu 5#5 6#5 7#5),
        (0x99733293, .sltiu 5#5 6#5 0x997#12), (0x18730BE3, .beq 6#5 7#5 0x996#13),
        (0x18731BE3, .bne 6#5 7#5 0x996#13), (0x18734BE3, .blt 6#5 7#5 0x996#13),
        (0x18735BE3, .bge 6#5 7#5 0x996#13), (0x18736BE3, .bltu 6#5 7#5 0x996#13),
        (0x18737BE3, .bgeu 6#5 7#5 0x996#13), (0x197CE2EF, .jal 5#5 0xce996#21)] = true := by
  decide

theorem test_decode_base_3 :
    decodesAll 32
      [(0x997302E7, .jalr 5#5 6#5 0x997#12), (0x5C32828F, .fence 0xc#4 3#4 5#4 5#5 5#5),
        (0x0052928F, .fenceI 5#12 5#5 5#5), (0x00000073, .scall), (0x00100073, .sbreak)] = true := by
  decide

theorem test_decode_system :
    decodesAll 32
      [(0x342312F3, .csrrw 5#5 0x342#12 6#5), (0x342322F3, .csrrs 5#5 0x342#12 6#5),
        (0x342332F3, .csrrc 5#5 0x342#12 6#5), (0x342BD2F3, .csrrwi 5#5 0x342#12 0x17#5),
        (0x342BE2F3, .csrrsi 5#5 0x342#12 0x17#5), (0x342BF2F3, .csrrci 5#5 0x342#12 0x17#5),
        (0x10000073, .eret), (0x30500073, .mrts), (0x30600073, .mrth), (0x20500073, .hrts),
        (0x10200073, .wfi), (0x10130073, .sfenceVm 6#5)] = true := by
  decide

theorem test_decode_compressed_1 :
    decodesAll 16
      [(0x4B44, .cLw 1#3 6#3 0x14#7), (0x42DA, .cLwsp 5#5 0x94#8), (0x6B44, .cLd 1#3 6#3 0x90#8),
        (0x62DA, .cLdsp 5#5 0x190#9), (0xCB4C, .cSw 6#3 3#3 0x14#7), (0xCB1E, .cSwsp 7#5 0x94#8),
        (0xEB4C, .cSd 6#3 3#3 0x90#8), (0xEB1E, .cSdsp 7#5 0x190#9), (0x929E, .cAdd 5#5 7#5),
        (0x9CAD, .cAddw 1#3 3#3), (0x02DD, .cAddi 5#5 0x17#6), (0x22DD, .cAddiw 5#5 0x17#6),
        (0x6159, .cAddi16sp 0x190#10), (0x0B44, .cAddi4spn 1#3 0x194#10), (0x42DD, .cLi 5#5 0x17#6),
        (0x62DD, .cLui 5#5 0x17#6), (0x829E, .cMv 5#5 7#5), (0x8C8D, .cSub 1#3 3#3),
        (0x02DA, .cSlli 5#5 0x16#6), (0xDB59, .cBeqz 6#3 0x196#9), (0xFB59, .cBnez 6#3 0x196#9),
        (0xBA59, .cJ 0x996#12), (0x8302, .cJr 6#5), (0x9302, .cJalr 6#5)] = true := by
  decide

theorem test_decode_compressed_2 :
    decodesAll 16
      [(0x9002, .cEbreak), (0x80D9, .cSrli 1#3 0x16#6), (0x84D9, .cSrai 1#3 0x16#6),
        (0x88DD, .cAndi 1#3 0x17#6), (0x8CAD, .cXor 1#3 3#3), (0x8CCD, .cOr 1#3 3#3),
        (0x8CED, .cAnd 1#3 3#3), (0x9C8D, .cSubw 1#3 3#3), (0x2B44, .cFld 1#3 6#3 0x90#8),
        (0x22DA, .cFldsp 5#5 0x190#9), (0xAB4C, .cFsd 6#3 3#3 0x90#8), (0xAB1E, .cFsdsp 7#5 0x190#9)] = true := by
  decide

theorem test_decode_compressed_rv32 :
    decodesAll32
      [(0x3A59, .cJal 0x996#12), (0x6B44, .cFlw 1#3 6#3 0x14#7), (0x62DA, .cFlwsp 5#5 0x94#8),
        (0xEB4C, .cFsw 6#3 3#3 0x14#7), (0xEB1E, .cFswsp 7#5 0x94#8)] = true := by
  decide

theorem test_decode_mulDiv :
    decodesAll 32
      [(0x027302B3, .mul 5#5 6#5 7#5), (0x027312B3, .mulh 5#5 6#5 7#5),
        (0x027322B3, .mulhsu 5#5 6#5 7#5), (0x027332B3, .mulhu 5#5 6#5 7#5),
        (0x027342B3, .div 5#5 6#5 7#5), (0x027352B3, .divu 5#5 6#5 7#5), (0x027362B3, .rem 5#5 6#5 7#5),
        (0x027372B3, .remu 5#5 6#5 7#5), (0x027302BB, .mulw 5#5 6#5 7#5),
        (0x027342BB, .divw 5#5 6#5 7#5), (0x027352BB, .divuw 5#5 6#5 7#5),
        (0x027362BB, .remw 5#5 6#5 7#5), (0x027372BB, .remuw 5#5 6#5 7#5)] = true := by
  decide

theorem test_decode_atomic :
    decodesAll 32
      [(0x140322AF, .lrW 5#5 6#5 1#1 0#1), (0x1C7322AF, .scW 5#5 6#5 7#5 1#1 0#1),
        (0x0C7322AF, .amoswapW 5#5 6#5 7#5 1#1 0#1), (0x047322AF, .amoaddW 5#5 6#5 7#5 1#1 0#1),
        (0x247322AF, .amoxorW 5#5 6#5 7#5 1#1 0#1), (0x647322AF, .amoandW 5#5 6#5 7#5 1#1 0#1),
        (0x447322AF, .amoorW 5#5 6#5 7#5 1#1 0#1), (0x847322AF, .amominW 5#5 6#5 7#5 1#1 0#1),
        (0xA47322AF, .amomaxW 5#5 6#5 7#5 1#1 0#1), (0xC47322AF, .amominuW 5#5 6#5 7#5 1#1 0#1),
        (0xE47322AF, .amomaxuW 5#5 6#5 7#5 1#1 0#1), (0x140332AF, .lrD 5#5 6#5 1#1 0#1),
        (0x1C7332AF, .scD 5#5 6#5 7#5 1#1 0#1), (0x0C7332AF, .amoswapD 5#5 6#5 7#5 1#1 0#1),
        (0x047332AF, .amoaddD 5#5 6#5 7#5 1#1 0#1), (0x247332AF, .amoxorD 5#5 6#5 7#5 1#1 0#1),
        (0x647332AF, .amoandD 5#5 6#5 7#5 1#1 0#1), (0x447332AF, .amoorD 5#5 6#5 7#5 1#1 0#1),
        (0x847332AF, .amominD 5#5 6#5 7#5 1#1 0#1), (0xA47332AF, .amomaxD 5#5 6#5 7#5 1#1 0#1),
        (0xC47332AF, .amominuD 5#5 6#5 7#5 1#1 0#1), (0xE47332AF, .amomaxuD 5#5 6#5 7#5 1#1 0#1)] = true := by
  decide

theorem test_decode_floatMove_1 :
    decodesAll 32
      [(0xF00302D3, .fmvSX 5#5 6#5), (0xE00302D3, .fmvXS 5#5 6#5), (0xF20302D3, .fmvDX 5#5 6#5),
        (0xE20302D3, .fmvXD 5#5 6#5), (0x99732287, .flw 5#5 6#5 0x997#12),
        (0x98732BA7, .fsw 6#5 7#5 0x997#12), (0x99733287, .fld 5#5 6#5 0x997#12),
        (0x98733BA7, .fsd 6#5 7#5 0x997#12), (0x99734287, .flq 5#5 6#5 0x997#12),
        (0x98734BA7, .fsq 6#5 7#5 0x997#12), (0xD00332D3, .fcvtSW 5#5 6#5 3#3),
        (0xD20332D3, .fcvtDW 5#5 6#5 3#3), (0xD60332D3, .fcvtQW 5#5 6#5 3#3),
        (0xD01332D3, .fcvtSWU 5#5 6#5 3#3), (0xD21332D3, .fcvtDWU 5#5 6#5 3#3),
        (0xD61332D3, .fcvtQWU 5#5 6#5 3#3), (0xD02332D3, .fcvtSL 5#5 6#5 3#3),
        (0xD22332D3, .fcvtDL 5#5 6#5 3#3), (0xD62332D3, .fcvtQL 5#5 6#5 3#3),
        (0xD03332D3, .fcvtSLU 5#5 6#5 3#3), (0xD23332D3, .fcvtDLU 5#5 6#5 3#3),
        (0xD63332D3, .fcvtQLU 5#5 6#5 3#3), (0xC00332D3, .fcvtWS 5#5 6#5 3#3),
        (0xC20332D3, .fcvtWD 5#5 6#5 3#3)] = true := by
  decide

theorem test_decode_floatMove_2 :
    decodesAll 32
      [(0xC60332D3, .fcvtWQ 5#5 6#5 3#3), (0xC01332D3, .fcvtWUS 5#5 6#5 3#3),
        (0xC21332D3, .fcvtWUD 5#5 6#5 3#3), (0xC61332D3, .fcvtWUQ 5#5 6#5 3#3),
        (0xC02332D3, .fcvtLS 5#5 6#5 3#3), (0xC22332D3, .fcvtLD 5#5 6#5 3#3),
        (0xC62332D3, .fcvtLQ 5#5 6#5 3#3), (0xC03332D3, .fcvtLUS 5#5 6#5 3#3),
        (0xC23332D3, .fcvtLUD 5#5 6#5 3#3), (0xC63332D3, .fcvtLUQ 5#5 6#5 3#3),
        (0x401332D3, .fcvtSD 5#5 6#5 3#3), (0x420332D3, .fcvtDS 5#5 6#5 3#3),
        (0x403332D3, .fcvtSQ 5#5 6#5 3#3), (0x460332D3, .fcvtQS 5#5 6#5 3#3),
        (0x423332D3, .fcvtDQ 5#5 6#5 3#3), (0x461332D3, .fcvtQD 5#5 6#5 3#3)] = true := by
  decide

theorem test_decode_floatArith_1 :
    decodesAll 32
      [(0x007332D3, .faddS 5#5 6#5 7#5 3#3), (0x027332D3, .faddD 5#5 6#5 7#5 3#3),
        (0x067332D3, .faddQ 5#5 6#5 7#5 3#3), (0x087332D3, .fsubS 5#5 6#5 7#5 3#3),
        (0x0A7332D3, .fsubD 5#5 6#5 7#5 3#3), (0x0E7332D3, .fsubQ 5#5 6#5 7#5 3#3),
        (0x107332D3, .fmulS 5#5 6#5 7#5 3#3), (0x127332D3, .fmulD 5#5 6#5 7#5 3#3),
        (0x167332D3, .fmulQ 5#5 6#5 7#5 3#3), (0x187332D3, .fdivS 5#5 6#5 7#5 3#3),
        (0x1A7332D3, .fdivD 5#5 6#5 7#5 3#3), (0x1E7332D3, .fdivQ 5#5 6#5 7#5 3#3),
        (0x580332D3, .fsqrtS 5#5 6#5 3#3), (0x5A0332D3, .fsqrtD 5#5 6#5 3#3),
        (0x5E0332D3, .fsqrtQ 5#5 6#5 3#3), (0xE07332C3, .fmaddS 5#5 6#5 7#5 0x1c#5 3#3),
        (0xE27332C3, .fmaddD 5#5 6#5 7#5 0x1c#5 3#3), (0xE67332C3, .fmaddQ 5#5 6#5 7#5 0x1c#5 3#3),
        (0xE07332C7, .fmsubS 5#5 6#5 7#5 0x1c#5 3#3), (0xE27332C7, .fmsubD 5#5 6#5 7#5 0x1c#5 3#3),
        (0xE67332C7, .fmsubQ 5#5 6#5 7#5 0x1c#5 3#3), (0xE07332CB, .fnmsubS 5#5 6#5 7#5 0x1c#5 3#3),
        (0xE27332CB, .fnmsubD 5#5 6#5 7#5 0x1c#5 3#3), (0xE67332CB, .fnmsubQ 5#5 6#5 7#5 0x1c#5 3#3)] = true := by
  decide

theorem test_decode_floatArith_2 :
    decodesAll 32
      [(0xE07332CF, .fnmaddS 5#5 6#5 7#5 0x1c#5 3#3), (0xE27332CF, .fnmaddD 5#5 6#5 7#5 0x1c#5 3#3),
        (0xE67332CF, .fnmaddQ 5#5 6#5 7#5 0x1c#5 3#3), (0x207302D3, .fsgnjS 5#5 6#5 7#5),
        (0x227302D3, .fsgnjD 5#5 6#5 7#5), (0x267302D3, .fsgnjQ 5#5 6#5 7#5),
        (0x207312D3, .fsgnjnS 5#5 6#5 7#5), (0x227312D3, .fsgnjnD 5#5 6#5 7#5),
        (0x267312D3, .fsgnjnQ 5#5 6#5 7#5), (0x207322D3, .fsgnjxS 5#5 6#5 7#5),
        (0x227322D3, .fsgnjxD 5#5 6#5 7#5), (0x267322D3, .fsgnjxQ 5#5 6#5 7#5),
        (0x287302D3, .fminS 5#5 6#5 7#5), (0x2A7302D3, .fminD 5#5 6#5 7#5),
        (0x2E7302D3, .fminQ 5#5 6#5 7#5), (0x287312D3, .fmaxS 5#5 6#5 7#5),
        (0x2A7312D3, .fmaxD 5#5 6#5 7#5), (0x2E7312D3, .fmaxQ 5#5 6#5 7#5),
        (0xA07322D3, .feqS 5#5 6#5 7#5), (0xA27322D3, .feqD 5#5 6#5 7#5),
        (0xA67322D3, .feqQ 5#5 6#5 7#5), (0xA07312D3, .fltS 5#5 6#5 7#5),
        (0xA27312D3, .fltD 5#5 6#5 7#5), (0xA67312D3, .fltQ 5#5 6#5 7#5)] = true := by
  decide

theorem test_decode_floatArith_3 :
    decodesAll 32
      [(0xA07302D3, .fleS 5#5 6#5 7#5), (0xA27302D3, .fleD 5#5 6#5 7#5), (0xA67302D3, .fleQ 5#5 6#5 7#5),
        (0xE00312D3, .fclassS 5#5 6#5), (0xE20312D3, .fclassD 5#5 6#5), (0xE60312D3, .fclassQ 5#5 6#5)] = true := by
  decide

/-- The words of the alias rows (RDCYCLE to FSFLAGSI, ECALL, EBREAK) are their core instructions'. -/
theorem test_decode_aliases :
    decodesAll 32
      [(0xC00022F3, .csrrs 5#5 0xC00#12 0#5), (0xC80022F3, .csrrs 5#5 0xC80#12 0#5),
        (0xC01022F3, .csrrs 5#5 0xC01#12 0#5), (0xC81022F3, .csrrs 5#5 0xC81#12 0#5),
        (0xC02022F3, .csrrs 5#5 0xC02#12 0#5), (0xC82022F3, .csrrs 5#5 0xC82#12 0#5),
        (0x00000073, .scall), (0x00100073, .sbreak), (0x003022F3, .csrrs 5#5 0x003#12 0#5),
        (0x002022F3, .csrrs 5#5 0x002#12 0#5), (0x001022F3, .csrrs 5#5 0x001#12 0#5),
        (0x003312F3, .csrrw 5#5 0x003#12 6#5), (0x002312F3, .csrrw 5#5 0x002#12 6#5),
        (0x001312F3, .csrrw 5#5 0x001#12 6#5), (0x0024D2F3, .csrrwi 5#5 0x002#12 9#5),
        (0x0014D2F3, .csrrwi 5#5 0x001#12 9#5)] = true := by
  decide

theorem test_decode_nop : decodesAll 16 [(0x0001, .cAddi 0#5 0#6)] = true := by
  decide

/-! ### One step, expected values from the vectors -/

/-- spec/96, line 134: `LB x5,x6,4`. -/
theorem test_lb :
    after (vec .rv32 [] 32 0x00430283 [(6, 0x2000)] (mem := [(0x2000, [0x78, 0x56, 0x34, 0x12, 0xF0, 0xDE,
      0xBC, 0x9A])])) [.x 5] = some [0xFFFFFFF0] := by
  decide

/-- spec/96, line 132: `LH x5,x6,4`. -/
theorem test_lh :
    after (vec .rv32 [] 32 0x00431283 [(6, 0x2000)] (mem := [(0x2000, [0x78, 0x56, 0x34, 0x12, 0xF0, 0xDE,
      0xBC, 0x9A])])) [.x 5] = some [0xFFFFDEF0] := by
  decide

/-- spec/96, line 145: `LH x5,x6,1`. -/
theorem test_lh_traps :
    ends (vec .rv32 [] 32 0x00131283 [(6, 0x2000)] (mem := [(0x2000, [0x78, 0x56, 0x34, 0x12, 0xF0, 0xDE,
      0xBC, 0x9A])])) = some (.inl (.loadAddressMisaligned 0x2001)) := by
  decide

/-- spec/96, line 137: `LW x5,x6,0`. -/
theorem test_lw :
    after (vec .rv64 [] 32 0x00032283 [(6, 0x2004)] (mem := [(0x2000, [0x78, 0x56, 0x34, 0x12, 0xF0, 0xDE,
      0xBC, 0x9A])])) [.x 5] = some [0xFFFFFFFF9ABCDEF0] := by
  decide

/-- spec/99, line 200: `LW x5,x6,0`. -/
theorem test_lw_traps :
    ends (vec .rv32 [] 32 0x00032283 [(6, 0x3001)]) = some (.inl (.loadAddressMisaligned 0x3001)) := by
  decide

/-- spec/96, line 135: `LBU x5,x6,4`. -/
theorem test_lbu :
    after (vec .rv32 [] 32 0x00434283 [(6, 0x2000)] (mem := [(0x2000, [0x78, 0x56, 0x34, 0x12, 0xF0, 0xDE,
      0xBC, 0x9A])])) [.x 5] = some [0xF0] := by
  decide

/-- spec/96, line 133: `LHU x5,x6,4`. -/
theorem test_lhu :
    after (vec .rv32 [] 32 0x00435283 [(6, 0x2000)] (mem := [(0x2000, [0x78, 0x56, 0x34, 0x12, 0xF0, 0xDE,
      0xBC, 0x9A])])) [.x 5] = some [0xDEF0] := by
  decide

/-- spec/96, line 139: `LD x5,x6,0`. -/
theorem test_ld :
    after (vec .rv64 [] 32 0x00033283 [(6, 0x2000)] (mem := [(0x2000, [0x78, 0x56, 0x34, 0x12, 0xF0, 0xDE,
      0xBC, 0x9A])])) [.x 5] = some [0x9ABCDEF012345678] := by
  decide

/-- spec/96, line 140: `LD x5,x6,0`. -/
theorem test_ld_traps :
    ends (vec .rv32 [] 32 0x00033283 [(6, 0x2000)] (mem := [(0x2000, [0x78, 0x56, 0x34, 0x12, 0xF0, 0xDE,
      0xBC, 0x9A])])) = some (.inl (.illegalInstruction 0x33283)) := by
  decide

/-- spec/96, line 138: `LWU x5,x6,0`. -/
theorem test_lwu :
    after (vec .rv64 [] 32 0x00036283 [(6, 0x2004)] (mem := [(0x2000, [0x78, 0x56, 0x34, 0x12, 0xF0, 0xDE,
      0xBC, 0x9A])])) [.x 5] = some [0x9ABCDEF0] := by
  decide

/-- spec/96, line 152: `SB x6,x5,1`. -/
theorem test_sb :
    after (vec .rv32 [] 32 0x005300A3 [(6, 0x2000), (5, 0x1234ABCD)]) [.bytes 0x2001 1] = some [0xCD] :=
      by
  decide

/-- spec/96, line 151: `SH x6,x5,2`. -/
theorem test_sh :
    after (vec .rv32 [] 32 0x00531123 [(6, 0x2000), (5, 0x12345678)]) [.bytes 0x2002 2] = some [0x5678] :=
      by
  decide

/-- spec/96, line 154: `SW x6,x5,0`. -/
theorem test_sw :
    after (vec .rv64 [] 32 0x00532023 [(6, 0x2000), (5, 0x123456789ABCDEF)]) [.bytes 0x2000 4] = some
      [0x89ABCDEF] := by
  decide

/-- spec/96, line 157: `SW x6,x5,0`. -/
theorem test_sw_traps :
    ends (vec .rv32 [] 32 0x00532023 [(6, 0x1000), (5, 0)]) = some (.inl (.storeAccessFault 0x1000)) := by
  decide

/-- spec/96, line 153: `SD x6,x5,8`. -/
theorem test_sd :
    after (vec .rv64 [] 32 0x00533423 [(6, 0x2000), (5, 0x123456789ABCDEF)]) [.bytes 0x2008 8] = some
      [0x123456789ABCDEF] := by
  decide

/-- spec/96, line 62: `SLL x5,x6,x7`. -/
theorem test_sll :
    after (vec .rv32 [] 32 0x007312B3 [(6, 1), (7, 0xFFFFFFFF)]) [.x 5] = some [0x80000000] := by
  decide

/-- spec/96, line 70: `SLLI x5,x6,0`. -/
theorem test_slli :
    after (vec .rv32 [] 32 0x00031293 [(6, 0x12345678)]) [.x 5] = some [0x12345678] := by
  decide

/-- spec/96, line 65: `SRL x5,x6,x7`. -/
theorem test_srl :
    after (vec .rv32 [] 32 0x007352B3 [(6, 0x80000000), (7, 0x1F)]) [.x 5] = some [1] := by
  decide

/-- spec/96, line 74: `SRLI x5,x6,32`. -/
theorem test_srli :
    after (vec .rv64 [] 32 0x02035293 [(6, 0xFFFFFFFF00000000)]) [.x 5] = some [0xFFFFFFFF] := by
  decide

/-- spec/96, line 66: `SRA x5,x6,x7`. -/
theorem test_sra :
    after (vec .rv32 [] 32 0x407352B3 [(6, 0x80000000), (7, 0x1F)]) [.x 5] = some [0xFFFFFFFF] := by
  decide

/-- spec/96, line 73: `SRAI x5,x6,63`. -/
theorem test_srai :
    after (vec .rv64 [] 32 0x43F35293 [(6, 0x8000000000000000)]) [.x 5] = some [0xFFFFFFFFFFFFFFFF] := by
  decide

/-- spec/96, line 77: `SLLW x5,x6,x7`. -/
theorem test_sllw :
    after (vec .rv64 [] 32 0x007312BB [(6, 1), (7, 0x1F)]) [.x 5] = some [0xFFFFFFFF80000000] := by
  decide

/-- spec/96, line 82: `SLLIW x5,x6,31`. -/
theorem test_slliw :
    after (vec .rv64 [] 32 0x01F3129B [(6, 0xFFFFFFFF)]) [.x 5] = some [0xFFFFFFFF80000000] := by
  decide

/-- spec/96, line 80: `SRLW x5,x6,x7`. -/
theorem test_srlw :
    after (vec .rv64 [] 32 0x007352BB [(6, 0x1234567880000000), (7, 0)]) [.x 5] = some
      [0xFFFFFFFF80000000] := by
  decide

/-- spec/96, line 83: `SRLIW x5,x6,1`. -/
theorem test_srliw :
    after (vec .rv64 [] 32 0x0013529B [(6, 0xFFFFFFFFFFFFFFFF)]) [.x 5] = some [0x7FFFFFFF] := by
  decide

/-- spec/96, line 81: `SRAW x5,x6,x7`. -/
theorem test_sraw :
    after (vec .rv64 [] 32 0x407352BB [(6, 0x80000000), (7, 4)]) [.x 5] = some [0xFFFFFFFFF8000000] := by
  decide

/-- spec/96, line 84: `SRAIW x5,x6,1`. -/
theorem test_sraiw :
    after (vec .rv64 [] 32 0x4013529B [(6, 0xFFFFFFFE)]) [.x 5] = some [0xFFFFFFFFFFFFFFFF] := by
  decide

/-- spec/96, line 17: `ADD x5,x6,x7`. -/
theorem test_add :
    after (vec .rv32 [] 32 0x007302B3 [(6, 0x7FFFFFFF), (7, 0x7FFFFFFF)]) [.x 5] = some [0xFFFFFFFE] := by
  decide

/-- spec/96, line 23: `ADDI x5,x6,2047`. -/
theorem test_addi :
    after (vec .rv32 [] 32 0x7FF30293 [(6, 0x7FFFF801)]) [.x 5] = some [0x80000000] := by
  decide

/-- spec/96, line 21: `SUB x5,x6,x7`. -/
theorem test_sub :
    after (vec .rv32 [] 32 0x407302B3 [(6, 0x80000000), (7, 1)]) [.x 5] = some [0x7FFFFFFF] := by
  decide

/-- spec/96, line 50: `ADDW x5,x6,x7`. -/
theorem test_addw :
    after (vec .rv64 [] 32 0x007302BB [(6, 0xFFFFFFFF00000001), (7, 0x1234567800000002)]) [.x 5] = some
      [3] := by
  decide

/-- spec/96, line 54: `ADDW x5,x6,x7`. -/
theorem test_addw_traps :
    ends (vec .rv32 [] 32 0x007302BB [(6, 1), (7, 1)]) = some (.inl (.illegalInstruction 0x7302BB)) := by
  decide

/-- spec/96, line 52: `ADDIW x5,x6,0`. -/
theorem test_addiw :
    after (vec .rv64 [] 32 0x0003029B [(6, 0xFFFFFFFF)]) [.x 5] = some [0xFFFFFFFFFFFFFFFF] := by
  decide

/-- spec/99, line 171: `SUBW x5,x6,x7`. -/
theorem test_subw :
    after (vec .rv64 [] 32 0x407302BB [(6, 5), (7, 7)]) [.x 5] = some [0xFFFFFFFFFFFFFFFE] := by
  decide

/-- spec/96, line 27: `LUI x5,0x80000`. -/
theorem test_lui :
    after (vec .rv64 [] 32 0x800002B7 []) [.x 5] = some [0xFFFFFFFF80000000] := by
  decide

/-- spec/96, line 29: `AUIPC x5,1`. -/
theorem test_auipc :
    after (vec .rv32 [] 32 0x00001297 [] (pc := 0x80000010)) [.x 5] = some [0x80001010] := by
  decide

/-- spec/96, line 32: `XOR x5,x6,x7`. -/
theorem test_xor :
    after (vec .rv32 [] 32 0x007342B3 [(6, 0xFF00FF00), (7, 0xFF00FF0)]) [.x 5] = some [0xF0F0F0F0] := by
  decide

/-- spec/96, line 33: `XORI x5,x6,-1`. -/
theorem test_xori :
    after (vec .rv32 [] 32 0xFFF34293 [(6, 0x12345678)]) [.x 5] = some [0xEDCBA987] := by
  decide

/-- spec/96, line 34: `OR x5,x6,x7`. -/
theorem test_or :
    after (vec .rv32 [] 32 0x007362B3 [(6, 0xFF00FF00), (7, 0xFF00FF0)]) [.x 5] = some [0xFFF0FFF0] := by
  decide

/-- spec/96, line 35: `ORI x5,x6,-2048`. -/
theorem test_ori :
    after (vec .rv64 [] 32 0x80036293 [(6, 1)]) [.x 5] = some [0xFFFFFFFFFFFFF801] := by
  decide

/-- spec/96, line 36: `AND x5,x6,x7`. -/
theorem test_and :
    after (vec .rv32 [] 32 0x007372B3 [(6, 0xFF00FF00), (7, 0xFF00FF0)]) [.x 5] = some [0xF000F00] := by
  decide

/-- spec/96, line 38: `ANDI x5,x6,-256`. -/
theorem test_andi :
    after (vec .rv32 [] 32 0xF0037293 [(6, 0x12345678)]) [.x 5] = some [0x12345600] := by
  decide

/-- spec/96, line 41: `SLT x5,x6,x7`. -/
theorem test_slt :
    after (vec .rv32 [] 32 0x007322B3 [(6, 0x80000000), (7, 0x7FFFFFFF)]) [.x 5] = some [1] := by
  decide

/-- spec/96, line 45: `SLTI x5,x6,-1`. -/
theorem test_slti :
    after (vec .rv32 [] 32 0xFFF32293 [(6, 0xFFFFFFFF)]) [.x 5] = some [0] := by
  decide

/-- spec/96, line 40: `SLTU x5,x6,x7`. -/
theorem test_sltu :
    after (vec .rv32 [] 32 0x007332B3 [(6, 0xFFFFFFFF), (7, 1)]) [.x 5] = some [0] := by
  decide

/-- spec/96, line 47: `SLTIU x5,x6,-1`. -/
theorem test_sltiu :
    after (vec .rv32 [] 32 0xFFF33293 [(6, 0xFFFFFFFE)]) [.x 5] = some [1] := by
  decide

/-- spec/96, line 105: `BEQ x5,x6,-256`. -/
theorem test_beq :
    after (vec .rv32 [] 32 0xF06280E3 [(5, 1), (6, 1)] (pc := 0x80)) [.pc] = some [0xFFFFFF80] := by
  decide

/-- spec/96, line 94: `BNE x5,x0,-4`. -/
theorem test_bne :
    after (vec .rv32 [] 32 0xFE029EE3 [(5, 0)] (pc := 0x100)) [.pc] = some [0x104] := by
  decide

/-- spec/96, line 106: `BLT x5,x6,8`. -/
theorem test_blt :
    after (vec .rv64 [] 32 0x0062C463 [(5, 0xFFFFFFFF), (6, 1)] (pc := 0x100)) [.pc] = some [0x104] := by
  decide

/-- spec/96, line 98: `BGE x5,x6,16`. -/
theorem test_bge :
    after (vec .rv32 [] 32 0x0062D863 [(5, 0x80000000), (6, 0)] (pc := 0x100)) [.pc] = some [0x104] := by
  decide

/-- spec/96, line 96: `BLTU x5,x6,16`. -/
theorem test_bltu :
    after (vec .rv32 [] 32 0x0062E863 [(5, 0xFFFFFFFF), (6, 1)] (pc := 0x100)) [.pc] = some [0x104] := by
  decide

/-- spec/96, line 102: `BLTU x5,x6,4094`. -/
theorem test_bltu_traps :
    ends (vec .rv32 [] 32 0x7E62EFE3 [(5, 0), (6, 1)] (pc := 0x100)) = some (.inl
      (.instructionAddressMisaligned 0x10FE)) := by
  decide

/-- spec/96, line 99: `BGEU x5,x6,16`. -/
theorem test_bgeu :
    after (vec .rv32 [] 32 0x0062F863 [(5, 0x80000000), (6, 0)] (pc := 0x100)) [.pc] = some [0x110] := by
  decide

/-- spec/96, line 117: `JAL x1,2`. -/
theorem test_jal :
    after (vec .rv32 [.C] 32 0x002000EF [] (pc := 0x100)) [.x 1, .pc] = some [0x104, 0x102] := by
  decide

/-- spec/99, line 203: `JAL x1,0x1002`. -/
theorem test_jal_traps :
    ends (vec .rv32 [] 32 0x002010EF []) = some (.inl (.instructionAddressMisaligned 0x2002)) := by
  decide

/-- spec/96, line 118: `JALR x1,x5,-2`. -/
theorem test_jalr :
    after (vec .rv32 [] 32 0xFFE280E7 [(5, 0x1003)] (pc := 0x200)) [.x 1, .pc] = some [0x204, 0x1000] :=
      by
  decide

/-- spec/96, line 120: `JALR x1,x5,2`. -/
theorem test_jalr_traps :
    ends (vec .rv32 [] 32 0x002280E7 [(5, 0x1000)] (pc := 0x200)) = some (.inl
      (.instructionAddressMisaligned 0x1002)) := by
  decide

/-- spec/96, line 170: `FENCE`. -/
theorem test_fence :
    after (vec .rv32 [] 32 0x0FF0000F []) [.pc] = some [0x1004] := by
  decide

/-- spec/96, line 173: `FENCE.I`. -/
theorem test_fenceI :
    after (vec .rv32 [] 32 0x0000100F []) [.pc] = some [0x1004] := by
  decide

/-- spec/96, line 166: `SCALL`. -/
theorem test_scall_traps :
    ends (vec .rv32 [] 32 0x00000073 []) = some (.inl (.environmentCall)) := by
  decide

/-- spec/96, line 167: `SBREAK`. -/
theorem test_sbreak_traps :
    ends (vec .rv32 [] 32 0x00100073 []) = some (.inl (.breakpoint 0x1000)) := by
  decide

/-- spec/96, line 197: `CSRRW x0,frm,x6`. -/
theorem test_csrrw :
    after (vec .rv32 [.F] 32 0x00231073 [(6, 7)] (fcsr := 0x1F)) [.fcsr] = some [0xFF] := by
  decide

/-- spec/99, line 205: `CSRRW x5,0x7C0,x6`. -/
theorem test_csrrw_traps :
    ends (vec .rv32 [] 32 0x7C0312F3 [(6, 1)]) = some (.inl (.illegalInstruction 0x7C0312F3)) := by
  decide

/-- spec/96, line 198: `CSRRS x5,fflags,x6`. -/
theorem test_csrrs :
    after (vec .rv32 [.F] 32 0x001322F3 [(6, 0x10)] (fcsr := 1)) [.x 5, .fcsr] = some [1, 0x11] := by
  decide

/-- spec/96, line 194: `CSRRS x5,fcsr,x0`. -/
theorem test_csrrs_traps :
    ends (vec .rv32 [] 32 0x003022F3 []) = some (.inl (.illegalInstruction 0x3022F3)) := by
  decide

/-- spec/96, line 199: `CSRRC x5,fflags,x6`. -/
theorem test_csrrc :
    after (vec .rv32 [.F] 32 0x001332F3 [(6, 1)] (fcsr := 0x1F)) [.x 5, .fcsr] = some [0x1F, 0x1E] := by
  decide

/-- spec/96, line 200: `CSRRWI x5,frm,1`. -/
theorem test_csrrwi :
    after (vec .rv32 [.F] 32 0x0020D2F3 []) [.x 5, .fcsr] = some [0, 0x20] := by
  decide

/-- spec/96, line 192: `CSRRWI x0,cycle,0`. -/
theorem test_csrrwi_traps :
    ends (vec .rv32 [] 32 0xC0005073 []) = some (.inl (.illegalInstruction 0xC0005073)) := by
  decide

/-- spec/96, line 201: `CSRRSI x0,fflags,16`. -/
theorem test_csrrsi :
    after (vec .rv32 [.F] 32 0x00186073 []) [.fcsr] = some [0x10] := by
  decide

/-- spec/96, line 202: `CSRRCI x5,fflags,31`. -/
theorem test_csrrci :
    after (vec .rv32 [.F] 32 0x001FF2F3 [] (fcsr := 0xFF)) [.x 5, .fcsr] = some [0x1F, 0xE0] := by
  decide

/-- spec/96, line 174: `ERET`. -/
theorem test_eret_refused :
    ends (vec .rv32 [] 32 0x10000073 []) = some (.inr (.privileged "ERET")) := by
  decide

/-- spec/96, line 175: `MRTS`. -/
theorem test_mrts_refused :
    ends (vec .rv32 [] 32 0x30500073 []) = some (.inr (.privileged "MRTS")) := by
  decide

/-- spec/96, line 176: `MRTH`. -/
theorem test_mrth_refused :
    ends (vec .rv32 [] 32 0x30600073 []) = some (.inr (.privileged "MRTH")) := by
  decide

/-- spec/96, line 177: `HRTS`. -/
theorem test_hrts_refused :
    ends (vec .rv32 [] 32 0x20500073 []) = some (.inr (.privileged "HRTS")) := by
  decide

/-- spec/96, line 179: `WFI`. -/
theorem test_wfi_refused :
    ends (vec .rv32 [] 32 0x10200073 []) = some (.inr (.privileged "WFI")) := by
  decide

/-- spec/96, line 178: `SFENCE.VM x10`. -/
theorem test_sfenceVm_refused :
    ends (vec .rv32 [] 32 0x10150073 []) = some (.inr (.privileged "SFENCE.VM")) := by
  decide

/-- spec/99, line 19: `C.LW x15,x8,12`. -/
theorem test_cLw :
    after (vec .rv64 [.C] 16 0x445C [(8, 0x2000)] (mem := [(0x2000, [0x11, 0x22, 0x33, 0x44, 0x55, 0x66,
      0x77, 0x88, 0x99, 0xAA, 0xBB, 0xCC, 0xDD, 0xEE, 0xFF, 0x80])])) [.x 15] = some [0xFFFFFFFF80FFEEDD]
      := by
  decide

/-- spec/99, line 20: `C.LW x8,x9,4`. -/
theorem test_cLw_traps :
    ends (vec .rv32 [.C] 16 0x40C0 [(9, 0x2001)] (mem := [(0x2000, [0x11, 0x22, 0x33, 0x44, 0x55, 0x66,
      0x77, 0x88, 0x99, 0xAA, 0xBB, 0xCC, 0xDD, 0xEE, 0xFF, 0x80])])) = some (.inl (.loadAddressMisaligned
      0x2005)) := by
  decide

/-- spec/99, line 22: `C.LWSP x5,8`. -/
theorem test_cLwsp :
    after (vec .rv32 [.C] 16 0x42A2 [(2, 0x2000)] (mem := [(0x2000, [0x11, 0x22, 0x33, 0x44, 0x55, 0x66,
      0x77, 0x88, 0x99, 0xAA, 0xBB, 0xCC, 0xDD, 0xEE, 0xFF, 0x80])])) [.x 5] = some [0xCCBBAA99] := by
  decide

/-- spec/99, line 25: `C.LD x8,x9,8`. -/
theorem test_cLd :
    after (vec .rv64 [.C] 16 0x6480 [(9, 0x2000)] (mem := [(0x2000, [0x11, 0x22, 0x33, 0x44, 0x55, 0x66,
      0x77, 0x88, 0x99, 0xAA, 0xBB, 0xCC, 0xDD, 0xEE, 0xFF, 0x80])])) [.x 8] = some [0x80FFEEDDCCBBAA99]
      := by
  decide

/-- spec/99, line 27: `C.LDSP x5,8`. -/
theorem test_cLdsp :
    after (vec .rv64 [.C] 16 0x62A2 [(2, 0x2000)] (mem := [(0x2000, [0x11, 0x22, 0x33, 0x44, 0x55, 0x66,
      0x77, 0x88, 0x99, 0xAA, 0xBB, 0xCC, 0xDD, 0xEE, 0xFF, 0x80])])) [.x 5] = some [0x80FFEEDDCCBBAA99]
      := by
  decide

/-- spec/99, line 21: `C.SW x9,x8,8`. -/
theorem test_cSw :
    after (vec .rv32 [.C] 16 0xC480 [(9, 0x2000), (8, 0xCAFEBABE)]) [.bytes 0x2008 4] = some [0xCAFEBABE]
      := by
  decide

/-- spec/99, line 24: `C.SWSP x5,12`. -/
theorem test_cSwsp :
    after (vec .rv32 [.C] 16 0xC616 [(2, 0x2000), (5, 0x1020304)]) [.bytes 0x200C 4] = some [0x1020304] :=
      by
  decide

/-- spec/99, line 26: `C.SD x9,x8,16`. -/
theorem test_cSd :
    after (vec .rv64 [.C] 16 0xE880 [(9, 0x2000), (8, 0x102030405060708)]) [.bytes 0x2010 8] = some
      [0x102030405060708] := by
  decide

/-- spec/99, line 28: `C.SDSP x5,24`. -/
theorem test_cSdsp :
    after (vec .rv64 [.C] 16 0xEC16 [(2, 0x2000), (5, 0xFFEEDDCCBBAA9988)]) [.bytes 0x2018 8] = some
      [0xFFEEDDCCBBAA9988] := by
  decide

/-- spec/99, line 50: `C.ADD x10,x11`. -/
theorem test_cAdd :
    after (vec .rv32 [.C] 16 0x952E [(10, 0xFFFFFFFF), (11, 2)]) [.x 10] = some [1] := by
  decide

/-- spec/99, line 56: `C.ADDW x8,x9`. -/
theorem test_cAddw :
    after (vec .rv64 [.C] 16 0x9C25 [(8, 0x7FFFFFFF), (9, 1)]) [.x 8] = some [0xFFFFFFFF80000000] := by
  decide

/-- spec/99, line 31: `C.ADDI x10,31`. -/
theorem test_cAddi :
    after (vec .rv32 [.C] 16 0x057D [(10, 0x7FFFFFF0)]) [.x 10] = some [0x8000000F] := by
  decide

/-- spec/99, line 33: `C.ADDIW x10,0`. -/
theorem test_cAddiw :
    after (vec .rv64 [.C] 16 0x2501 [(10, 0xFFFFFFFF)]) [.x 10] = some [0xFFFFFFFFFFFFFFFF] := by
  decide

/-- spec/99, line 39: `C.ADDI16SP 16`. -/
theorem test_cAddi16sp :
    after (vec .rv32 [.C] 16 0x6141 [(2, 0x2000)]) [.x 2] = some [0x2010] := by
  decide

/-- spec/99, line 17: `C.ADDI4SPN x15,1020`. -/
theorem test_cAddi4spn :
    after (vec .rv32 [.C] 16 0x1FFC [(2, 0x2080)]) [.x 15] = some [0x247C] := by
  decide

/-- spec/99, line 34: `C.LI x10,-32`. -/
theorem test_cLi :
    after (vec .rv32 [.C] 16 0x5501 []) [.x 10] = some [0xFFFFFFE0] := by
  decide

/-- spec/99, line 38: `C.LUI x10,0x20`. -/
theorem test_cLui :
    after (vec .rv64 [.C] 16 0x7501 []) [.x 10] = some [0xFFFFFFFFFFFE0000] := by
  decide

/-- spec/99, line 49: `C.MV x10,x11`. -/
theorem test_cMv :
    after (vec .rv32 [.C] 16 0x852E [(10, 5), (11, 0xDEADBEEF)]) [.x 10] = some [0xDEADBEEF] := by
  decide

/-- spec/99, line 51: `C.SUB x8,x9`. -/
theorem test_cSub :
    after (vec .rv32 [.C] 16 0x8C05 [(8, 0), (9, 1)]) [.x 8] = some [0xFFFFFFFF] := by
  decide

/-- spec/99, line 42: `C.SLLI x10,4`. -/
theorem test_cSlli :
    after (vec .rv32 [.C] 16 0x0512 [(10, 0xF000000F)]) [.x 10] = some [0xF0] := by
  decide

/-- spec/99, line 69: `C.BEQZ x8,-256`. -/
theorem test_cBeqz :
    after (vec .rv32 [.C] 16 0xD001 [(8, 0)] (pc := 0x1100)) [.pc] = some [0x1000] := by
  decide

/-- spec/99, line 67: `C.BNEZ x8,254`. -/
theorem test_cBnez :
    after (vec .rv32 [.C] 16 0xEC7D [(8, 1)]) [.pc] = some [0x10FE] := by
  decide

/-- spec/99, line 59: `C.J -2048`. -/
theorem test_cJ :
    after (vec .rv32 [.C] 16 0xB001 [] (pc := 0x1800)) [.pc] = some [0x1000] := by
  decide

/-- spec/99, line 62: `C.JR x1`. -/
theorem test_cJr :
    after (vec .rv32 [.C] 16 0x8082 [(1, 0x1235)]) [.pc] = some [0x1234] := by
  decide

/-- spec/99, line 61: `C.JAL 16`. -/
theorem test_cJal :
    after (vec .rv32 [.C] 16 0x2801 []) [.x 1, .pc] = some [0x1002, 0x1010] := by
  decide

/-- spec/99, line 64: `C.JALR x1`. -/
theorem test_cJalr :
    after (vec .rv32 [.C] 16 0x9082 [(1, 0x1800)]) [.x 1, .pc] = some [0x1002, 0x1800] := by
  decide

/-- spec/99, line 70: `C.EBREAK`. -/
theorem test_cEbreak_traps :
    ends (vec .rv32 [.C] 16 0x9002 []) = some (.inl (.breakpoint 0x1000)) := by
  decide

/-- spec/99, line 44: `C.SRLI x8,4`. -/
theorem test_cSrli :
    after (vec .rv32 [.C] 16 0x8011 [(8, 0xF000000F)]) [.x 8] = some [0xF000000] := by
  decide

/-- spec/99, line 46: `C.SRAI x8,63`. -/
theorem test_cSrai :
    after (vec .rv64 [.C] 16 0x947D [(8, 0x8000000000000000)]) [.x 8] = some [0xFFFFFFFFFFFFFFFF] := by
  decide

/-- spec/99, line 47: `C.ANDI x8,-32`. -/
theorem test_cAndi :
    after (vec .rv32 [.C] 16 0x9801 [(8, 0x123456FF)]) [.x 8] = some [0x123456E0] := by
  decide

/-- spec/99, line 52: `C.XOR x8,x9`. -/
theorem test_cXor :
    after (vec .rv32 [.C] 16 0x8C25 [(8, 0xFF00FF00), (9, 0xFF00FF0)]) [.x 8] = some [0xF0F0F0F0] := by
  decide

/-- spec/99, line 53: `C.OR x8,x9`. -/
theorem test_cOr :
    after (vec .rv32 [.C] 16 0x8C45 [(8, 0xFF00FF00), (9, 0xFF00FF0)]) [.x 8] = some [0xFFF0FFF0] := by
  decide

/-- spec/99, line 54: `C.AND x8,x9`. -/
theorem test_cAnd :
    after (vec .rv32 [.C] 16 0x8C65 [(8, 0xFF00FF00), (9, 0xFF00FF0)]) [.x 8] = some [0xF000F00] := by
  decide

/-- spec/99, line 57: `C.SUBW x8,x9`. -/
theorem test_cSubw :
    after (vec .rv64 [.C] 16 0x9C05 [(8, 0x100000000), (9, 1)]) [.x 8] = some [0xFFFFFFFFFFFFFFFF] := by
  decide

/-- spec/99, line 71: `C.FLW f8,x9,4`. -/
theorem test_cFlw :
    after (vec .rv32 [.F, .C] 16 0x60C0 [(9, 0x2000)] (mem := [(0x2000, [0x11, 0x22, 0x33, 0x44, 0x55,
      0x66, 0x77, 0x88, 0x99, 0xAA, 0xBB, 0xCC, 0xDD, 0xEE, 0xFF, 0x80])])) [.f 8] = some [0x88776655] :=
      by
  decide

/-- spec/99, line 73: `C.FLWSP f5,4`. -/
theorem test_cFlwsp :
    after (vec .rv32 [.F, .C] 16 0x6292 [(2, 0x2000)] (mem := [(0x2000, [0x11, 0x22, 0x33, 0x44, 0x55,
      0x66, 0x77, 0x88, 0x99, 0xAA, 0xBB, 0xCC, 0xDD, 0xEE, 0xFF, 0x80])])) [.f 5] = some [0x88776655] :=
      by
  decide

/-- spec/99, line 72: `C.FSW x9,f8,8`. -/
theorem test_cFsw :
    after (vec .rv32 [.F, .C] 16 0xE480 [(9, 0x2000)] (fs := [(8, 0x3F800000)])) [.bytes 0x2008 4] = some
      [0x3F800000] := by
  decide

/-- spec/99, line 74: `C.FSWSP f5,4`. -/
theorem test_cFswsp :
    after (vec .rv32 [.F, .C] 16 0xE216 [(2, 0x2000)] (fs := [(5, 0xC0000000)])) [.bytes 0x2004 4] = some
      [0xC0000000] := by
  decide

/-- spec/99, line 75: `C.FLD f8,x9,8`. -/
theorem test_cFld :
    after (vec .rv32 [.F, .D, .C] 16 0x2480 [(9, 0x2000)] (mem := [(0x2000, [0x11, 0x22, 0x33, 0x44, 0x55,
      0x66, 0x77, 0x88, 0x99, 0xAA, 0xBB, 0xCC, 0xDD, 0xEE, 0xFF, 0x80])])) [.f 8] = some
      [0x80FFEEDDCCBBAA99] := by
  decide

/-- spec/99, line 78: `C.FLDSP f5,8`. -/
theorem test_cFldsp :
    after (vec .rv64 [.F, .D, .C] 16 0x22A2 [(2, 0x2000)] (mem := [(0x2000, [0x11, 0x22, 0x33, 0x44, 0x55,
      0x66, 0x77, 0x88, 0x99, 0xAA, 0xBB, 0xCC, 0xDD, 0xEE, 0xFF, 0x80])])) [.f 5] = some
      [0x80FFEEDDCCBBAA99] := by
  decide

/-- spec/99, line 77: `C.FSD x9,f8,8`. -/
theorem test_cFsd :
    after (vec .rv64 [.F, .D, .C] 16 0xA480 [(9, 0x2000)] (fs := [(8, 0x3FF0000000000000)])) [.bytes
      0x2008 8] = some [0x3FF0000000000000] := by
  decide

/-- spec/99, line 79: `C.FSDSP f5,16`. -/
theorem test_cFsdsp :
    after (vec .rv32 [.F, .D, .C] 16 0xA816 [(2, 0x2000)] (fs := [(5, 0x4000000000000000)])) [.bytes
      0x2010 8] = some [0x4000000000000000] := by
  decide

/-- spec/96, line 210: `MUL x5,x6,x7`. -/
theorem test_mul :
    after (vec .rv32 [.M] 32 0x027302B3 [(6, 7), (7, 0xFFFFFFFD)]) [.x 5] = some [0xFFFFFFEB] := by
  decide

/-- spec/96, line 242: `MUL x5,x6,x7`. -/
theorem test_mul_traps :
    ends (vec .rv32 [] 32 0x027302B3 [(6, 1), (7, 1)]) = some (.inl (.illegalInstruction 0x27302B3)) := by
  decide

/-- spec/96, line 218: `MULH x5,x6,x7`. -/
theorem test_mulh :
    after (vec .rv64 [.M] 32 0x027312B3 [(6, 0x8000000000000000), (7, 0x8000000000000000)]) [.x 5] = some
      [0x4000000000000000] := by
  decide

/-- spec/96, line 216: `MULHSU x5,x6,x7`. -/
theorem test_mulhsu :
    after (vec .rv32 [.M] 32 0x027322B3 [(6, 0x7FFFFFFF), (7, 0xFFFFFFFF)]) [.x 5] = some [0x7FFFFFFE] :=
      by
  decide

/-- spec/96, line 219: `MULHU x5,x6,x7`. -/
theorem test_mulhu :
    after (vec .rv64 [.M] 32 0x027332B3 [(6, 0xFFFFFFFFFFFFFFFF), (7, 0xFFFFFFFFFFFFFFFF)]) [.x 5] = some
      [0xFFFFFFFFFFFFFFFE] := by
  decide

/-- spec/96, line 233: `DIV x5,x6,x7`. -/
theorem test_div :
    after (vec .rv64 [.M] 32 0x027342B3 [(6, 0x8000000000000000), (7, 0xFFFFFFFFFFFFFFFF)]) [.x 5] = some
      [0x8000000000000000] := by
  decide

/-- spec/96, line 224: `DIVU x5,x6,x7`. -/
theorem test_divu :
    after (vec .rv32 [.M] 32 0x027352B3 [(6, 0xFFFFFFF9), (7, 2)]) [.x 5] = some [0x7FFFFFFC] := by
  decide

/-- spec/96, line 231: `REM x5,x6,x7`. -/
theorem test_rem :
    after (vec .rv32 [.M] 32 0x027362B3 [(6, 0x80000000), (7, 0xFFFFFFFF)]) [.x 5] = some [0] := by
  decide

/-- spec/96, line 229: `REMU x5,x6,x7`. -/
theorem test_remu :
    after (vec .rv32 [.M] 32 0x027372B3 [(6, 0x80000001), (7, 0)]) [.x 5] = some [0x80000001] := by
  decide

/-- spec/96, line 235: `MULW x5,x6,x7`. -/
theorem test_mulw :
    after (vec .rv64 [.M] 32 0x027302BB [(6, 0x10000), (7, 0x8000)]) [.x 5] = some [0xFFFFFFFF80000000] :=
      by
  decide

/-- spec/96, line 243: `MULW x5,x6,x7`. -/
theorem test_mulw_traps :
    ends (vec .rv32 [.M] 32 0x027302BB [(6, 1), (7, 1)]) = some (.inl (.illegalInstruction 0x27302BB)) :=
      by
  decide

/-- spec/96, line 237: `DIVW x5,x6,x7`. -/
theorem test_divw :
    after (vec .rv64 [.M] 32 0x027342BB [(6, 0x1234567800000007), (7, 0xFFFFFFFE)]) [.x 5] = some
      [0xFFFFFFFFFFFFFFFD] := by
  decide

/-- spec/96, line 238: `DIVUW x5,x6,x7`. -/
theorem test_divuw :
    after (vec .rv64 [.M] 32 0x027352BB [(6, 0xFFFFFFFF), (7, 1)]) [.x 5] = some [0xFFFFFFFFFFFFFFFF] :=
      by
  decide

/-- spec/96, line 240: `REMW x5,x6,x7`. -/
theorem test_remw :
    after (vec .rv64 [.M] 32 0x027362BB [(6, 0xFFFFFFF9), (7, 2)]) [.x 5] = some [0xFFFFFFFFFFFFFFFF] :=
      by
  decide

/-- spec/96, line 241: `REMUW x5,x6,x7`. -/
theorem test_remuw :
    after (vec .rv64 [.M] 32 0x027372BB [(6, 0xFFFFFFFF80000001), (7, 0)]) [.x 5] = some
      [0xFFFFFFFF80000001] := by
  decide

/-- spec/96, line 252: `LR.W x5,x6`. -/
theorem test_lrW :
    after (vec .rv64 [.A] 32 0x100322AF [(6, 0x2004)] (mem := [(0x2000, [0xFF, 0xFF, 0xFF, 0x7F, 0, 0, 0,
      0x80])])) [.x 5, .held] = some [0xFFFFFFFF80000000, 4] := by
  decide

/-- spec/96, line 254: `LR.W x5,x6`. -/
theorem test_lrW_traps :
    ends (vec .rv32 [.A] 32 0x100322AF [(6, 0x3000)] (res := some ⟨0x2000, 4⟩)) = some (.inl
      (.loadAccessFault 0x3000)) := by
  decide

/-- spec/96, line 257: `SC.W x5,x6,x7`. -/
theorem test_scW :
    after (vec .rv32 [.A] 32 0x187322AF [(6, 0x2000), (7, 0x11223344), (5, 0)] (mem := [(0x2000, [0xFF,
      0xFF, 0xFF, 0x7F, 0, 0, 0, 0x80])])) [.x 5] = some [1] := by
  decide

/-- spec/96, line 267: `AMOSWAP.W x5,x6,x7`. -/
theorem test_amoswapW :
    after (vec .rv32 [.A] 32 0x087322AF [(6, 0x2000), (7, 2)] (mem := [(0x2000, [1, 0, 0, 0])])) [.x 5,
      .bytes 0x2000 4] = some [1, 2] := by
  decide

/-- spec/96, line 269: `AMOADD.W x5,x6,x7`. -/
theorem test_amoaddW :
    after (vec .rv64 [.A] 32 0x007322AF [(6, 0x2000), (7, 0xFFFFFFFF00000001)] (mem := [(0x2000, [0xFF,
      0xFF, 0xFF, 0x7F, 0xEE, 0xEE, 0xEE, 0xEE])])) [.x 5, .bytes 0x2000 4] = some [0x7FFFFFFF,
      0x80000000] := by
  decide

/-- spec/96, line 293: `AMOADD.W x5,x6,x7`. -/
theorem test_amoaddW_traps :
    ends (vec .rv32 [] 32 0x007322AF [(6, 0x2000), (7, 5)]) = some (.inl (.illegalInstruction 0x7322AF))
      := by
  decide

/-- spec/96, line 270: `AMOXOR.W x5,x6,x7`. -/
theorem test_amoxorW :
    after (vec .rv32 [.A] 32 0x207322AF [(6, 0x2000), (7, 0xF0F0F0F)] (mem := [(0x2000, [0xFF, 0, 0xFF,
      0])])) [.x 5, .bytes 0x2000 4] = some [0xFF00FF, 0xFF00FF0] := by
  decide

/-- spec/96, line 271: `AMOAND.W x5,x6,x7`. -/
theorem test_amoandW :
    after (vec .rv32 [.A] 32 0x607322AF [(6, 0x2000), (7, 0xF0F0F0F)] (mem := [(0x2000, [0xFF, 0, 0xFF,
      0])])) [.x 5, .bytes 0x2000 4] = some [0xFF00FF, 0xF000F] := by
  decide

/-- spec/96, line 273: `AMOOR.W x5,x6,x0`. -/
theorem test_amoorW :
    after (vec .rv32 [.A] 32 0x400322AF [(6, 0x2000)] (mem := [(0x2000, [0x44, 0x33, 0x22, 0x11])])) [.x
      5, .bytes 0x2000 4] = some [0x11223344, 0x11223344] := by
  decide

/-- spec/96, line 274: `AMOMIN.W x5,x6,x7`. -/
theorem test_amominW :
    after (vec .rv32 [.A] 32 0x807322AF [(6, 0x2004), (7, 1)] (mem := [(0x2000, [0xFF, 0xFF, 0xFF, 0x7F,
      0, 0, 0, 0x80])])) [.x 5, .bytes 0x2004 4] = some [0x80000000, 0x80000000] := by
  decide

/-- spec/96, line 275: `AMOMAX.W x5,x6,x7`. -/
theorem test_amomaxW :
    after (vec .rv32 [.A] 32 0xA07322AF [(6, 0x2004), (7, 1)] (mem := [(0x2000, [0xFF, 0xFF, 0xFF, 0x7F,
      0, 0, 0, 0x80])])) [.x 5, .bytes 0x2004 4] = some [0x80000000, 1] := by
  decide

/-- spec/96, line 276: `AMOMINU.W x5,x6,x7`. -/
theorem test_amominuW :
    after (vec .rv32 [.A] 32 0xC07322AF [(6, 0x2004), (7, 1)] (mem := [(0x2000, [0xFF, 0xFF, 0xFF, 0x7F,
      0, 0, 0, 0x80])])) [.x 5, .bytes 0x2004 4] = some [0x80000000, 1] := by
  decide

/-- spec/96, line 277: `AMOMAXU.W x5,x6,x7`. -/
theorem test_amomaxuW :
    after (vec .rv32 [.A] 32 0xE07322AF [(6, 0x2004), (7, 1)] (mem := [(0x2000, [0xFF, 0xFF, 0xFF, 0x7F,
      0, 0, 0, 0x80])])) [.x 5, .bytes 0x2004 4] = some [0x80000000, 0x80000000] := by
  decide

/-- spec/96, line 264: `LR.D x5,x6`. -/
theorem test_lrD :
    after (vec .rv64 [.A] 32 0x100332AF [(6, 0x2000)] (mem := [(0x2000, [0xFF, 0xFF, 0xFF, 0x7F, 0, 0, 0,
      0x80])])) [.x 5, .held] = some [0x800000007FFFFFFF, 8] := by
  decide

/-- spec/96, line 265: `LR.D x5,x6`. -/
theorem test_lrD_traps :
    ends (vec .rv64 [.A] 32 0x100332AF [(6, 0x2004)] (mem := [(0x2000, [0xFF, 0xFF, 0xFF, 0x7F, 0, 0, 0,
      0x80])])) = some (.inl (.loadAddressMisaligned 0x2004)) := by
  decide

/-- spec/96, line 292: `AMOSWAP.D x5,x6,x7`. -/
theorem test_amoswapD_traps :
    ends (vec .rv64 [.A] 32 0x087332AF [(6, 0x2004), (7, 1)]) = some (.inl (.storeAddressMisaligned
      0x2004)) := by
  decide

/-- spec/96, line 284: `AMOADD.D x5,x6,x7`. -/
theorem test_amoaddD :
    after (vec .rv64 [.A] 32 0x007332AF [(6, 0x2000), (7, 1)] (mem := [(0x2000, [0xFF, 0xFF, 0xFF, 0xFF,
      0xFF, 0xFF, 0xFF, 0xFF])])) [.x 5, .bytes 0x2000 8] = some [0xFFFFFFFFFFFFFFFF, 0] := by
  decide

/-- spec/96, line 287: `AMOXOR.D x5,x6,x7`. -/
theorem test_amoxorD :
    after (vec .rv64 [.A] 32 0x207332AF [(6, 0x2008), (7, 0xFF00FF00FF00FF)] (mem := [(0x2008, [0xFF,
      0xFF, 0xFF, 0xFF, 0xFF, 0xFF, 0xFF, 0xFF])])) [.x 5, .bytes 0x2008 8] = some [0xFFFFFFFFFFFFFFFF,
      0xFF00FF00FF00FF00] := by
  decide

/-- spec/96, line 288: `AMOAND.D x5,x6,x7`. -/
theorem test_amoandD :
    after (vec .rv64 [.A] 32 0x607332AF [(6, 0x2008), (7, 0xFF00FF00FF00FF)] (mem := [(0x2008, [0xF0,
      0xF0, 0xF0, 0xF0, 0xF0, 0xF0, 0xF0, 0xF0])])) [.x 5, .bytes 0x2008 8] = some [0xF0F0F0F0F0F0F0F0,
      0xF000F000F000F0] := by
  decide

/-- spec/96, line 289: `AMOOR.D x5,x6,x7`. -/
theorem test_amoorD :
    after (vec .rv64 [.A] 32 0x407332AF [(6, 0x2008), (7, 0xFF00FF00FF00FF)] (mem := [(0x2008, [0xF0,
      0xF0, 0xF0, 0xF0, 0xF0, 0xF0, 0xF0, 0xF0])])) [.x 5, .bytes 0x2008 8] = some [0xF0F0F0F0F0F0F0F0,
      0xF0FFF0FFF0FFF0FF] := by
  decide

/-- spec/96, line 285: `AMOMIN.D x5,x6,x7`. -/
theorem test_amominD :
    after (vec .rv64 [.A] 32 0x807332AF [(6, 0x2000), (7, 1)] (mem := [(0x2000, [0, 0, 0, 0, 0, 0, 0,
      0x80])])) [.x 5, .bytes 0x2000 8] = some [0x8000000000000000, 0x8000000000000000] := by
  decide

/-- spec/96, line 290: `AMOMAX.D x5,x6,x7`. -/
theorem test_amomaxD :
    after (vec .rv64 [.A] 32 0xA07332AF [(6, 0x2000), (7, 1)] (mem := [(0x2000, [0, 0, 0, 0, 0, 0, 0,
      0x80])])) [.x 5, .bytes 0x2000 8] = some [0x8000000000000000, 1] := by
  decide

/-- spec/96, line 291: `AMOMINU.D x5,x6,x7`. -/
theorem test_amominuD :
    after (vec .rv64 [.A] 32 0xC07332AF [(6, 0x2000), (7, 1)] (mem := [(0x2000, [0, 0, 0, 0, 0, 0, 0,
      0x80])])) [.x 5, .bytes 0x2000 8] = some [0x8000000000000000, 1] := by
  decide

/-- spec/96, line 286: `AMOMAXU.D x5,x6,x7`. -/
theorem test_amomaxuD :
    after (vec .rv64 [.A] 32 0xE07332AF [(6, 0x2000), (7, 1)] (mem := [(0x2000, [0, 0, 0, 0, 0, 0, 0,
      0x80])])) [.x 5, .bytes 0x2000 8] = some [0x8000000000000000, 0x8000000000000000] := by
  decide

/-- spec/97, line 22: `FMV.S.X f5,x6`. -/
theorem test_fmvSX :
    after (vec .rv64 [.F, .D] 32 0xF00302D3 [(6, 0x123456783F800000)]) [.f 5] = some [0xFFFFFFFF3F800000]
      := by
  decide

/-- spec/97, line 29: `FMV.S.X f5,x6`. -/
theorem test_fmvSX_traps :
    ends (vec .rv32 [] 32 0xF00302D3 [(6, 0)]) = some (.inl (.illegalInstruction 0xF00302D3)) := by
  decide

/-- spec/97, line 24: `FMV.X.S x5,f6`. -/
theorem test_fmvXS :
    after (vec .rv64 [.F, .D] 32 0xE00302D3 [] (fs := [(6, 0xFFFFFFFFBF800000)])) [.x 5] = some
      [0xFFFFFFFFBF800000] := by
  decide

/-- spec/97, line 26: `FMV.D.X f5,x6`. -/
theorem test_fmvDX :
    after (vec .rv64 [.F, .D] 32 0xF20302D3 [(6, 0x4000000000000000)]) [.f 5] = some [0x4000000000000000]
      := by
  decide

/-- spec/97, line 27: `FMV.X.D x5,f6`. -/
theorem test_fmvXD :
    after (vec .rv64 [.F, .D] 32 0xE20302D3 [] (fs := [(6, 0xC000000000000000)])) [.x 5] = some
      [0xC000000000000000] := by
  decide

/-- spec/97, line 28: `FMV.X.D x5,f6`. -/
theorem test_fmvXD_traps :
    ends (vec .rv32 [.F, .D] 32 0xE20302D3 [] (fs := [(6, 0xC000000000000000)])) = some (.inl
      (.illegalInstruction 0xE20302D3)) := by
  decide

/-- spec/97, line 31: `FLW f5,x6,0`. -/
theorem test_flw :
    after (vec .rv64 [.F, .D] 32 0x00032287 [(6, 0x2000)] (mem := [(0x2000, [0, 0, 0x80, 0x3F, 0, 0, 0, 0,
      0, 0, 0xF0, 0xBF, 0x11, 0x22, 0x33, 0x44])])) [.f 5] = some [0xFFFFFFFF3F800000] := by
  decide

/-- spec/99, line 207: `FLW f1,x6,1`. -/
theorem test_flw_traps :
    ends (vec .rv32 [] 32 0x00132087 [(6, 0x3000)]) = some (.inl (.illegalInstruction 0x132087)) := by
  decide

/-- spec/97, line 39: `FSW x6,f5,4`. -/
theorem test_fsw :
    after (vec .rv64 [.F, .D] 32 0x00532227 [(6, 0x2000)] (fs := [(5, 0x1234567840490FDB)])) [.bytes
      0x2004 4] = some [0x40490FDB] := by
  decide

/-- spec/97, line 42: `FSW x6,f5,0`. -/
theorem test_fsw_traps :
    ends (vec .rv32 [.F] 32 0x00532027 [(6, 0x1000)] (fs := [(5, 0)])) = some (.inl (.storeAccessFault
      0x1000)) := by
  decide

/-- spec/97, line 33: `FLD f5,x6,8`. -/
theorem test_fld :
    after (vec .rv32 [.F, .D] 32 0x00833287 [(6, 0x2000)] (mem := [(0x2000, [0, 0, 0x80, 0x3F, 0, 0, 0, 0,
      0, 0, 0xF0, 0xBF, 0x11, 0x22, 0x33, 0x44])])) [.f 5] = some [0x44332211BFF00000] := by
  decide

/-- spec/97, line 34: `FLD f5,x6,0`. -/
theorem test_fld_traps :
    ends (vec .rv32 [.F] 32 0x00033287 [(6, 0x2000)] (mem := [(0x2000, [0, 0, 0x80, 0x3F, 0, 0, 0, 0, 0,
      0, 0xF0, 0xBF, 0x11, 0x22, 0x33, 0x44])])) = some (.inl (.illegalInstruction 0x33287)) := by
  decide

/-- spec/97, line 41: `FSD x6,f5,8`. -/
theorem test_fsd :
    after (vec .rv32 [.F, .D] 32 0x00533427 [(6, 0x2000)] (fs := [(5, 0x400921FB54442D18)])) [.bytes
      0x2008 8] = some [0x400921FB54442D18] := by
  decide

/-- spec/97, line 43: `FLQ f5,x6,0`. -/
theorem test_flq :
    after (vec .rv64 [.F, .D, .Q] 32 0x00034287 [(6, 0x2000)] (mem := [(0x2000, [0, 0, 0x80, 0x3F, 0, 0,
      0, 0, 0, 0, 0xF0, 0xBF, 0x11, 0x22, 0x33, 0x44])])) [.f 5] = some
      [0x44332211BFF00000000000003F800000] := by
  decide

/-- spec/97, line 45: `FLQ f5,x6,8`. -/
theorem test_flq_traps :
    ends (vec .rv64 [.F, .D, .Q] 32 0x00834287 [(6, 0x2000)] (mem := [(0x2000, [0, 0, 0x80, 0x3F, 0, 0, 0,
      0, 0, 0, 0xF0, 0xBF, 0x11, 0x22, 0x33, 0x44])])) = some (.inl (.loadAddressMisaligned 0x2008)) := by
  decide

/-- spec/97, line 44: `FSQ x6,f5,16`. -/
theorem test_fsq :
    after (vec .rv64 [.F, .D, .Q] 32 0x00534827 [(6, 0x2000)] (fs := [(5,
      0x3FFF0000000000000000000000000001)])) [.bytes 0x2010 16] = some
      [0x3FFF0000000000000000000000000001] := by
  decide

/-- spec/97, line 67: `FCVT.S.W f5,x6,dyn`. -/
theorem test_fcvtSW :
    after (vec .rv32 [.F] 32 0xD00372D3 [(6, 0x1000001)] (fcsr := 0x60)) [.f 5, .fcsr] = some [0x4B800001,
      0x61] := by
  decide

/-- spec/97, line 68: `FCVT.S.W f5,x6,dyn`. -/
theorem test_fcvtSW_traps :
    ends (vec .rv32 [.F] 32 0xD00372D3 [(6, 1)] (fcsr := 0xA0)) = some (.inl (.illegalInstruction
      0xD00372D3)) := by
  decide

/-- spec/97, line 69: `FCVT.D.W f5,x6,rne`. -/
theorem test_fcvtDW :
    after (vec .rv32 [.F, .D] 32 0xD20302D3 [(6, 0x80000000)]) [.f 5] = some [0xC1E0000000000000] := by
  decide

/-- spec/97, line 71: `FCVT.D.W f5,x6`. -/
theorem test_fcvtDW_traps :
    ends (vec .rv32 [.F, .D] 32 0xD20372D3 [(6, 7)] (fcsr := 0xE0)) = some (.inl (.illegalInstruction
      0xD20372D3)) := by
  decide

/-- spec/97, line 79: `FCVT.Q.W f5,x6,rne`. -/
theorem test_fcvtQW :
    after (vec .rv64 [.F, .D, .Q] 32 0xD60302D3 [(6, 0xFFFFFFFE)]) [.f 5] = some
      [0xC0000000000000000000000000000000] := by
  decide

/-- spec/97, line 53: `FCVT.S.WU f5,x6,rne`. -/
theorem test_fcvtSWU :
    after (vec .rv32 [.F] 32 0xD01302D3 [(6, 0xFFFFFFFF)]) [.f 5, .fcsr] = some [0x4F800000, 1] := by
  decide

/-- spec/97, line 70: `FCVT.D.WU f5,x6,rne`. -/
theorem test_fcvtDWU :
    after (vec .rv32 [.F, .D] 32 0xD21302D3 [(6, 0x80000000)]) [.f 5] = some [0x41E0000000000000] := by
  decide

/-- spec/97, line 81: `FCVT.Q.WU f5,x6,rne`. -/
theorem test_fcvtQWU :
    after (vec .rv64 [.F, .D, .Q] 32 0xD61302D3 [(6, 0xFFFFFFFFFFFFFFFE)]) [.f 5] = some
      [0x401EFFFFFFFC00000000000000000000] := by
  decide

/-- spec/97, line 72: `FCVT.S.L f5,x6,rne`. -/
theorem test_fcvtSL :
    after (vec .rv64 [.F, .D] 32 0xD02302D3 [(6, 0x7FFFFFFFFFFFFFFF)]) [.f 5, .fcsr] = some
      [0xFFFFFFFF5F000000, 1] := by
  decide

/-- spec/97, line 78: `FCVT.S.L f5,x6,rne`. -/
theorem test_fcvtSL_traps :
    ends (vec .rv32 [.F, .D] 32 0xD02302D3 [(6, 1)]) = some (.inl (.illegalInstruction 0xD02302D3)) := by
  decide

/-- spec/97, line 74: `FCVT.D.L f5,x6,rne`. -/
theorem test_fcvtDL :
    after (vec .rv64 [.F, .D] 32 0xD22302D3 [(6, 0x20000000000001)]) [.f 5, .fcsr] = some
      [0x4340000000000000, 1] := by
  decide

/-- spec/97, line 82: `FCVT.Q.L f5,x6,rne`. -/
theorem test_fcvtQL :
    after (vec .rv64 [.F, .D, .Q] 32 0xD62302D3 [(6, 0x8000000000000000)]) [.f 5] = some
      [0xC03E0000000000000000000000000000] := by
  decide

/-- spec/97, line 73: `FCVT.S.LU f5,x6,rne`. -/
theorem test_fcvtSLU :
    after (vec .rv64 [.F, .D] 32 0xD03302D3 [(6, 0xFFFFFFFFFFFFFFFF)]) [.f 5, .fcsr] = some
      [0xFFFFFFFF5F800000, 1] := by
  decide

/-- spec/97, line 76: `FCVT.D.LU f5,x6,rtz`. -/
theorem test_fcvtDLU :
    after (vec .rv64 [.F, .D] 32 0xD23312D3 [(6, 0xFFFFFFFFFFFFFFFF)]) [.f 5, .fcsr] = some
      [0x43EFFFFFFFFFFFFF, 1] := by
  decide

/-- spec/97, line 80: `FCVT.Q.LU f5,x6,rne`. -/
theorem test_fcvtQLU :
    after (vec .rv64 [.F, .D, .Q] 32 0xD63302D3 [(6, 0xFFFFFFFFFFFFFFFF)]) [.f 5] = some
      [0x403EFFFFFFFFFFFFFFFE000000000000] := by
  decide

/-- spec/97, line 122: `FCVT.W.S x5,f6,rtz`. -/
theorem test_fcvtWS :
    after (vec .rv64 [.F, .D] 32 0xC00312D3 [] (fs := [(6, 0x3F800000)])) [.x 5, .fcsr] = some
      [0x7FFFFFFF, 0x10] := by
  decide

/-- spec/97, line 132: `FCVT.W.S x5,f6`. -/
theorem test_fcvtWS_traps :
    ends (vec .rv32 [.F] 32 0xC00352D3 [] (fs := [(6, 0x3F800000)])) = some (.inl (.illegalInstruction
      0xC00352D3)) := by
  decide

/-- spec/97, line 123: `FCVT.W.D x5,f6,rne`. -/
theorem test_fcvtWD :
    after (vec .rv32 [.F, .D] 32 0xC20302D3 [] (fs := [(6, 0x41DFFFFFFFE00000)])) [.x 5, .fcsr] = some
      [0x7FFFFFFF, 0x10] := by
  decide

/-- spec/97, line 133: `FCVT.W.Q x5,f6,rtz`. -/
theorem test_fcvtWQ :
    after (vec .rv64 [.F, .D, .Q] 32 0xC60312D3 [] (fs := [(6, 0xC0008000000000000000000000000000)])) [.x
      5] = some [0xFFFFFFFFFFFFFFFD] := by
  decide

/-- spec/97, line 120: `FCVT.WU.S x5,f6,rtz`. -/
theorem test_fcvtWUS :
    after (vec .rv32 [.F] 32 0xC01312D3 [] (fs := [(6, 0x4F800000)])) [.x 5, .fcsr] = some [0xFFFFFFFF,
      0x10] := by
  decide

/-- spec/97, line 126: `FCVT.WU.D x5,f6,rtz`. -/
theorem test_fcvtWUD :
    after (vec .rv32 [.F, .D] 32 0xC21312D3 [] (fs := [(6, 0x41EFFFFFFFE00000)])) [.x 5] = some
      [0xFFFFFFFF] := by
  decide

/-- spec/97, line 134: `FCVT.WU.Q x5,f6,rtz`. -/
theorem test_fcvtWUQ :
    after (vec .rv64 [.F, .D, .Q] 32 0xC61312D3 [] (fs := [(6, 0xC0008000000000000000000000000000)])) [.x
      5, .fcsr] = some [0, 0x10] := by
  decide

/-- spec/97, line 127: `FCVT.L.S x5,f6,rtz`. -/
theorem test_fcvtLS :
    after (vec .rv64 [.F, .D] 32 0xC02312D3 [] (fs := [(6, 0xFFFFFFFFBFC00000)])) [.x 5, .fcsr] = some
      [0xFFFFFFFFFFFFFFFF, 1] := by
  decide

/-- spec/97, line 128: `FCVT.L.D x5,f6,rne`. -/
theorem test_fcvtLD :
    after (vec .rv64 [.F, .D] 32 0xC22302D3 [] (fs := [(6, 0x43E02207973F6440)])) [.x 5, .fcsr] = some
      [0x7FFFFFFFFFFFFFFF, 0x10] := by
  decide

/-- spec/97, line 131: `FCVT.L.D x5,f6,rne`. -/
theorem test_fcvtLD_traps :
    ends (vec .rv32 [.F, .D] 32 0xC22302D3 [] (fs := [(6, 0x3FF0000000000000)])) = some (.inl
      (.illegalInstruction 0xC22302D3)) := by
  decide

/-- spec/97, line 135: `FCVT.L.Q x5,f6,rne`. -/
theorem test_fcvtLQ :
    after (vec .rv64 [.F, .D, .Q] 32 0xC62302D3 [] (fs := [(6, 0x40004000000000000000000000000000)])) [.x
      5, .fcsr] = some [2, 1] := by
  decide

/-- spec/97, line 137: `FCVT.LU.S x5,f6,rtz`. -/
theorem test_fcvtLUS :
    after (vec .rv64 [.F] 32 0xC03312D3 [] (fs := [(6, 0x5F000000)])) [.x 5] = some [0x8000000000000000]
      := by
  decide

/-- spec/97, line 130: `FCVT.LU.D x5,f6,rne`. -/
theorem test_fcvtLUD :
    after (vec .rv64 [.F, .D] 32 0xC23302D3 [] (fs := [(6, 0x7FF8000000000000)])) [.x 5, .fcsr] = some
      [0xFFFFFFFFFFFFFFFF, 0x10] := by
  decide

/-- spec/97, line 136: `FCVT.LU.Q x5,f6,rup`. -/
theorem test_fcvtLUQ :
    after (vec .rv64 [.F, .D, .Q] 32 0xC63332D3 [] (fs := [(6, 0x40004000000000000000000000000000)])) [.x
      5, .fcsr] = some [3, 1] := by
  decide

/-- spec/97, line 162: `FCVT.S.D f5,f6,rne`. -/
theorem test_fcvtSD :
    after (vec .rv32 [.F, .D] 32 0x401302D3 [] (fs := [(6, 0x380FFFFFF8000000)])) [.f 5, .fcsr] = some
      [0xFFFFFFFF00800000, 1] := by
  decide

/-- spec/97, line 146: `FCVT.D.S f5,f6,rne`. -/
theorem test_fcvtDS :
    after (vec .rv32 [.F, .D] 32 0x420302D3 [] (fs := [(6, 0xFFFFFFFF7F800001)])) [.f 5, .fcsr] = some
      [0x7FF8000000000000, 0x10] := by
  decide

/-- spec/97, line 166: `FCVT.S.Q f5,f6,rup`. -/
theorem test_fcvtSQ :
    after (vec .rv64 [.F, .D, .Q] 32 0x403332D3 [] (fs := [(6, 0x3FFF0000000000000000000000000001)])) [.f
      5, .fcsr] = some [0xFFFFFFFFFFFFFFFFFFFFFFFF3F800001, 1] := by
  decide

/-- spec/97, line 167: `FCVT.Q.S f5,f6,rne`. -/
theorem test_fcvtQS :
    after (vec .rv64 [.F, .D, .Q] 32 0x460302D3 [] (fs := [(6, 0xFFFFFFFFFFFFFFFFFFFFFFFF3F000000)])) [.f
      5] = some [0x3FFE0000000000000000000000000000] := by
  decide

/-- spec/97, line 165: `FCVT.D.Q f5,f6,rne`. -/
theorem test_fcvtDQ :
    after (vec .rv64 [.F, .D, .Q] 32 0x423302D3 [] (fs := [(6, 0x3FFF0000000000000800000000000000)])) [.f
      5, .fcsr] = some [0xFFFFFFFFFFFFFFFF3FF0000000000000, 1] := by
  decide

/-- spec/97, line 164: `FCVT.Q.D f5,f6,rne`. -/
theorem test_fcvtQD :
    after (vec .rv64 [.F, .D, .Q] 32 0x461302D3 [] (fs := [(6, 0xFFFFFFFFFFFFFFFFC000000000000000)])) [.f
      5] = some [0xC0000000000000000000000000000000] := by
  decide

/-- spec/98, line 40: `FADD.S f5,f6,f7,rne`. -/
theorem test_faddS :
    after (vec .rv32 [.F] 32 0x007302D3 [] (fs := [(6, 0x3F800000), (7, 0x40000000)]) (fcsr := 0x1F)) [.f
      5, .fcsr] = some [0x40400000, 0x1F] := by
  decide

/-- spec/99, line 206: `FADD.S f1,f2,f3,dyn`. -/
theorem test_faddS_traps :
    ends (vec .rv32 [.F] 32 0x003170D3 [] (fs := [(2, 0x3F800000), (3, 0x3F800000)]) (fcsr := 0xA0)) =
      some (.inl (.illegalInstruction 0x3170D3)) := by
  decide

/-- spec/98, line 78: `FADD.D f5,f6,f7,rne`. -/
theorem test_faddD_traps :
    ends (vec .rv32 [.F] 32 0x027302D3 [] (fs := [(6, 0), (7, 0)])) = some (.inl (.illegalInstruction
      0x27302D3)) := by
  decide

/-- spec/98, line 72: `FADD.Q f5,f6,f7,rne`. -/
theorem test_faddQ :
    after (vec .rv64 [.F, .D, .Q] 32 0x067302D3 [] (fs := [(6, 0x3FFF0000000000000000000000000000), (7,
      0x40000000000000000000000000000000)])) [.f 5, .fcsr] = some [0x40008000000000000000000000000000, 0]
      := by
  decide

/-- spec/98, line 48: `FSUB.S f5,f6,f7,rne`. -/
theorem test_fsubS :
    after (vec .rv32 [.F] 32 0x087302D3 [] (fs := [(6, 0x7F800000), (7, 0x7F800000)])) [.f 5, .fcsr] =
      some [0x7FC00000, 0x10] := by
  decide

/-- spec/98, line 49: `FSUB.D f5,f6,f7,rne`. -/
theorem test_fsubD :
    after (vec .rv32 [.F, .D] 32 0x0A7302D3 [] (fs := [(6, 0x3FF0000000000000), (7, 0x3CA0000000000000)]))
      [.f 5, .fcsr] = some [0x3FEFFFFFFFFFFFFF, 0] := by
  decide

/-- spec/98, line 74: `FSUB.Q f5,f6,f7,rne`. -/
theorem test_fsubQ :
    after (vec .rv64 [.F, .D, .Q] 32 0x0E7302D3 [] (fs := [(6, 0x3FFF0000000000000000000000000000), (7,
      0x40000000000000000000000000000000)])) [.f 5, .fcsr] = some [0xBFFF0000000000000000000000000000, 0]
      := by
  decide

/-- spec/98, line 54: `FMUL.S f5,f6,f7,rne`. -/
theorem test_fmulS :
    after (vec .rv32 [.F] 32 0x107302D3 [] (fs := [(6, 0xFFFFFF), (7, 0x3F000000)])) [.f 5, .fcsr] = some
      [0x800000, 3] := by
  decide

/-- spec/98, line 56: `FMUL.D f5,f6,f7,rne`. -/
theorem test_fmulD :
    after (vec .rv32 [.F, .D] 32 0x127302D3 [] (fs := [(6, 0x6974E718D7D7625A), (7, 0x6974E718D7D7625A)]))
      [.f 5, .fcsr] = some [0x7FF0000000000000, 5] := by
  decide

/-- spec/98, line 75: `FMUL.Q f5,f6,f7,rne`. -/
theorem test_fmulQ :
    after (vec .rv64 [.F, .D, .Q] 32 0x167302D3 [] (fs := [(6, 0x40008000000000000000000000000000), (7,
      0x40008000000000000000000000000000)])) [.f 5, .fcsr] = some [0x40022000000000000000000000000000, 0]
      := by
  decide

/-- spec/98, line 62: `FDIV.S f5,f6,f7,rne`. -/
theorem test_fdivS :
    after (vec .rv32 [.F] 32 0x187302D3 [] (fs := [(6, 0x7F800000), (7, 0x7F800000)])) [.f 5, .fcsr] =
      some [0x7FC00000, 0x10] := by
  decide

/-- spec/98, line 64: `FDIV.D f5,f6,f7,rne`. -/
theorem test_fdivD :
    after (vec .rv32 [.F, .D] 32 0x1A7302D3 [] (fs := [(6, 0x3FF0000000000000), (7, 0x4008000000000000)]))
      [.f 5, .fcsr] = some [0x3FD5555555555555, 1] := by
  decide

/-- spec/98, line 73: `FDIV.Q f5,f6,f7,rne`. -/
theorem test_fdivQ :
    after (vec .rv64 [.F, .D, .Q] 32 0x1E7302D3 [] (fs := [(6, 0x3FFF0000000000000000000000000000), (7,
      0x40008000000000000000000000000000)])) [.f 5, .fcsr] = some [0x3FFD5555555555555555555555555555, 1]
      := by
  decide

/-- spec/98, line 68: `FSQRT.S f5,f6,rne`. -/
theorem test_fsqrtS :
    after (vec .rv32 [.F] 32 0x580302D3 [] (fs := [(6, 0xBF800000)])) [.f 5, .fcsr] = some [0x7FC00000,
      0x10] := by
  decide

/-- spec/98, line 71: `FSQRT.D f5,f6,rne`. -/
theorem test_fsqrtD :
    after (vec .rv32 [.F, .D] 32 0x5A0302D3 [] (fs := [(6, 0x4000000000000000)])) [.f 5, .fcsr] = some
      [0x3FF6A09E667F3BCD, 1] := by
  decide

/-- spec/98, line 76: `FSQRT.Q f5,f6,rne`. -/
theorem test_fsqrtQ :
    after (vec .rv64 [.F, .D, .Q] 32 0x5E0302D3 [] (fs := [(6, 0x40010000000000000000000000000000)])) [.f
      5, .fcsr] = some [0x40000000000000000000000000000000, 0] := by
  decide +kernel

/-- spec/98, line 92: `FMADD.S f5,f6,f7,f8,rne`. -/
theorem test_fmaddS :
    after (vec .rv32 [.F] 32 0x407302C3 [] (fs := [(6, 0x7F800000), (7, 0x3F800000), (8, 0xFF800000)]))
      [.f 5, .fcsr] = some [0x7FC00000, 0x10] := by
  decide

/-- spec/98, line 98: `FMADD.D f5,f6,f7,f8,rne`. -/
theorem test_fmaddD :
    after (vec .rv32 [.F, .D] 32 0x427302C3 [] (fs := [(6, 0x3FF8000000000000), (7, 0x4000000000000000),
      (8, 0x3FD0000000000000)])) [.f 5, .fcsr] = some [0x400A000000000000, 0] := by
  decide

/-- spec/98, line 100: `FMADD.Q f5,f6,f7,f8,rne`. -/
theorem test_fmaddQ :
    after (vec .rv64 [.F, .D, .Q] 32 0x467302C3 [] (fs := [(6, 0x40000000000000000000000000000000), (7,
      0x40000000000000000000000000000000), (8, 0x3FFF0000000000000000000000000000)])) [.f 5, .fcsr] = some
      [0x40014000000000000000000000000000, 0] := by
  decide

/-- spec/98, line 86: `FMSUB.S f5,f6,f7,f8,rne`. -/
theorem test_fmsubS :
    after (vec .rv32 [.F] 32 0x407302C7 [] (fs := [(6, 0x40000000), (7, 0x40400000), (8, 0x3F800000)]))
      [.f 5, .fcsr] = some [0x40A00000, 0] := by
  decide

/-- spec/98, line 99: `FMSUB.D f5,f6,f7,f8,rtz`. -/
theorem test_fmsubD :
    after (vec .rv32 [.F, .D] 32 0x427312C7 [] (fs := [(6, 0x3FF0000000000001), (7, 0x3FF0000000000001),
      (8, 0x3FF0000000000000)])) [.f 5, .fcsr] = some [0x3CC0000000000000, 1] := by
  decide

/-- spec/98, line 101: `FMSUB.Q f5,f6,f7,f8,rne`. -/
theorem test_fmsubQ :
    after (vec .rv64 [.F, .D, .Q] 32 0x467302C7 [] (fs := [(6, 0x40000000000000000000000000000000), (7,
      0x40000000000000000000000000000000), (8, 0x3FFF0000000000000000000000000000)])) [.f 5, .fcsr] = some
      [0x40008000000000000000000000000000, 0] := by
  decide

/-- spec/98, line 87: `FNMSUB.S f5,f6,f7,f8,rne`. -/
theorem test_fnmsubS :
    after (vec .rv32 [.F] 32 0x407302CB [] (fs := [(6, 0x40000000), (7, 0x40400000), (8, 0x3F800000)]))
      [.f 5, .fcsr] = some [0xC0A00000, 0] := by
  decide

/-- spec/98, line 104: `FNMSUB.D f5,f6,f7,f8,rne`. -/
theorem test_fnmsubD :
    after (vec .rv32 [.F, .D] 32 0x427302CB [] (fs := [(6, 0x3FF8000000000000), (7, 0x4000000000000000),
      (8, 0x3FD0000000000000)])) [.f 5, .fcsr] = some [0xC006000000000000, 0] := by
  decide

/-- spec/98, line 102: `FNMSUB.Q f5,f6,f7,f8,rne`. -/
theorem test_fnmsubQ :
    after (vec .rv64 [.F, .D, .Q] 32 0x467302CB [] (fs := [(6, 0x40000000000000000000000000000000), (7,
      0x40000000000000000000000000000000), (8, 0x3FFF0000000000000000000000000000)])) [.f 5, .fcsr] = some
      [0xC0008000000000000000000000000000, 0] := by
  decide

/-- spec/98, line 88: `FNMADD.S f5,f6,f7,f8,rne`. -/
theorem test_fnmaddS :
    after (vec .rv32 [.F] 32 0x407302CF [] (fs := [(6, 0x40000000), (7, 0x40400000), (8, 0x3F800000)]))
      [.f 5, .fcsr] = some [0xC0E00000, 0] := by
  decide

/-- spec/98, line 105: `FNMADD.D f5,f6,f7,f8,rne`. -/
theorem test_fnmaddD :
    after (vec .rv32 [.F, .D] 32 0x427302CF [] (fs := [(6, 0x3FF8000000000000), (7, 0x4000000000000000),
      (8, 0x3FD0000000000000)])) [.f 5, .fcsr] = some [0xC00A000000000000, 0] := by
  decide

/-- spec/98, line 103: `FNMADD.Q f5,f6,f7,f8,rne`. -/
theorem test_fnmaddQ :
    after (vec .rv64 [.F, .D, .Q] 32 0x467302CF [] (fs := [(6, 0x40000000000000000000000000000000), (7,
      0x40000000000000000000000000000000), (8, 0x3FFF0000000000000000000000000000)])) [.f 5, .fcsr] = some
      [0xC0014000000000000000000000000000, 0] := by
  decide

/-- spec/98, line 120: `FSGNJ.S f5,f6,f7`. -/
theorem test_fsgnjS :
    after (vec .rv64 [.F, .D] 32 0x207302D3 [] (fs := [(6, 0xFFFFFFFF3FC00000), (7, 0xFFFFFFFFC0000000)]))
      [.f 5, .fcsr] = some [0xFFFFFFFFBFC00000, 0] := by
  decide

/-- spec/98, line 119: `FSGNJ.D f5,f6,f7`. -/
theorem test_fsgnjD :
    after (vec .rv32 [.F, .D] 32 0x227302D3 [] (fs := [(6, 0x3FF0000000000000), (7, 0x8000000000000000)]))
      [.f 5, .fcsr] = some [0xBFF0000000000000, 0] := by
  decide

/-- spec/98, line 123: `FSGNJ.Q f5,f6,f7`. -/
theorem test_fsgnjQ :
    after (vec .rv64 [.F, .D, .Q] 32 0x267302D3 [] (fs := [(6, 0x3FFF0000000000000000000000000000), (7,
      0xC0000000000000000000000000000000)])) [.f 5, .fcsr] = some [0xBFFF0000000000000000000000000000, 0]
      := by
  decide

/-- spec/98, line 113: `FSGNJN.S f5,f6,f7`. -/
theorem test_fsgnjnS :
    after (vec .rv32 [.F] 32 0x207312D3 [] (fs := [(6, 0x3FC00000), (7, 0xC0000000)])) [.f 5, .fcsr] =
      some [0x3FC00000, 0] := by
  decide

/-- spec/98, line 125: `FSGNJN.D f5,f6,f7`. -/
theorem test_fsgnjnD :
    after (vec .rv32 [.F, .D] 32 0x227312D3 [] (fs := [(6, 0x3FF0000000000000), (7, 0xC008000000000000)]))
      [.f 5, .fcsr] = some [0x3FF0000000000000, 0] := by
  decide

/-- spec/98, line 124: `FSGNJN.Q f5,f6,f6`. -/
theorem test_fsgnjnQ :
    after (vec .rv64 [.F, .D, .Q] 32 0x266312D3 [] (fs := [(6, 0x3FFF0000000000000000000000000000)])) [.f
      5, .fcsr] = some [0xBFFF0000000000000000000000000000, 0] := by
  decide

/-- spec/98, line 114: `FSGNJX.S f5,f6,f7`. -/
theorem test_fsgnjxS :
    after (vec .rv32 [.F] 32 0x207322D3 [] (fs := [(6, 0xBFC00000), (7, 0xC0000000)])) [.f 5, .fcsr] =
      some [0x3FC00000, 0] := by
  decide

/-- spec/98, line 126: `FSGNJX.D f5,f6,f7`. -/
theorem test_fsgnjxD :
    after (vec .rv32 [.F, .D] 32 0x227322D3 [] (fs := [(6, 0xBFF0000000000000), (7, 0xC008000000000000)]))
      [.f 5, .fcsr] = some [0x3FF0000000000000, 0] := by
  decide

/-- spec/98, line 122: `FSGNJX.Q f5,f6,f7`. -/
theorem test_fsgnjxQ :
    after (vec .rv64 [.F, .D, .Q] 32 0x267322D3 [] (fs := [(6, 0xBFFF0000000000000000000000000000), (7,
      0x80000000000000000000000000000000)])) [.f 5, .fcsr] = some [0x3FFF0000000000000000000000000000, 0]
      := by
  decide

/-- spec/98, line 132: `FMIN.S f5,f6,f7`. -/
theorem test_fminS :
    after (vec .rv32 [.F] 32 0x287302D3 [] (fs := [(6, 0x7F800001), (7, 0x7FC00000)])) [.f 5, .fcsr] =
      some [0x7FC00000, 0x10] := by
  decide

/-- spec/98, line 145: `FMIN.D f5,f6,f7`. -/
theorem test_fminD :
    after (vec .rv32 [.F, .D] 32 0x2A7302D3 [] (fs := [(6, 0xBFF0000000000000), (7, 0x3FF0000000000000)]))
      [.f 5, .fcsr] = some [0xBFF0000000000000, 0] := by
  decide

/-- spec/98, line 148: `FMIN.Q f5,f6,f7`. -/
theorem test_fminQ :
    after (vec .rv64 [.F, .D, .Q] 32 0x2E7302D3 [] (fs := [(6, 0x3FFF0000000000000000000000000000), (7,
      0xC0000000000000000000000000000000)])) [.f 5, .fcsr] = some [0xC0000000000000000000000000000000, 0]
      := by
  decide

/-- spec/98, line 130: `FMAX.S f5,f6,f7`. -/
theorem test_fmaxS :
    after (vec .rv32 [.F] 32 0x287312D3 [] (fs := [(6, 0x40000000), (7, 0x7F800001)])) [.f 5, .fcsr] =
      some [0x7FC00000, 0x10] := by
  decide

/-- spec/98, line 146: `FMAX.D f5,f6,f7`. -/
theorem test_fmaxD :
    after (vec .rv32 [.F, .D] 32 0x2A7312D3 [] (fs := [(6, 0x7FF8000000000000), (7, 0x3FF0000000000000)]))
      [.f 5, .fcsr] = some [0x3FF0000000000000, 0] := by
  decide

/-- spec/98, line 147: `FMAX.Q f5,f6,f7`. -/
theorem test_fmaxQ :
    after (vec .rv64 [.F, .D, .Q] 32 0x2E7312D3 [] (fs := [(6, 0x3FFF0000000000000000000000000000), (7,
      0xC0000000000000000000000000000000)])) [.f 5, .fcsr] = some [0x3FFF0000000000000000000000000000, 0]
      := by
  decide

/-- spec/98, line 158: `FEQ.S x5,f6,f7`. -/
theorem test_feqS :
    after (vec .rv32 [.F] 32 0xA07322D3 [] (fs := [(6, 0x7F800001), (7, 0x3F800000)])) [.x 5, .fcsr] =
      some [0, 0x10] := by
  decide

/-- spec/98, line 168: `FEQ.D x5,f6,f7`. -/
theorem test_feqD :
    after (vec .rv32 [.F, .D] 32 0xA27322D3 [] (fs := [(6, 0x3FB999999999999A), (7, 0x3FB999999999999A)]))
      [.x 5, .fcsr] = some [1, 0] := by
  decide

/-- spec/98, line 171: `FEQ.Q x5,f6,f7`. -/
theorem test_feqQ :
    after (vec .rv64 [.F, .D, .Q] 32 0xA67322D3 [] (fs := [(6, 0x3FFF0000000000000000000000000000), (7,
      0x3FFF0000000000000000000000000000)])) [.x 5, .fcsr] = some [1, 0] := by
  decide

/-- spec/98, line 162: `FLT.S x5,f6,f7`. -/
theorem test_fltS :
    after (vec .rv32 [.F] 32 0xA07312D3 [] (fs := [(6, 0x7FC00000), (7, 0x3F800000)])) [.x 5, .fcsr] =
      some [0, 0x10] := by
  decide

/-- spec/98, line 169: `FLT.D x5,f6,f7`. -/
theorem test_fltD :
    after (vec .rv64 [.F, .D] 32 0xA27312D3 [] (fs := [(6, 0x8000000000000000), (7, 0x1A56E1FC2F8F359)]))
      [.x 5, .fcsr] = some [1, 0] := by
  decide

/-- spec/98, line 172: `FLT.Q x5,f6,f7`. -/
theorem test_fltQ :
    after (vec .rv64 [.F, .D, .Q] 32 0xA67312D3 [] (fs := [(6, 0xC0000000000000000000000000000000), (7,
      0x3FFF0000000000000000000000000000)])) [.x 5, .fcsr] = some [1, 0] := by
  decide

/-- spec/98, line 167: `FLE.S x0,f6,f7`. -/
theorem test_fleS :
    after (vec .rv32 [.F] 32 0xA0730053 [] (fs := [(6, 0x3F800000), (7, 0x7FC00000)])) [.fcsr] = some
      [0x10] := by
  decide

/-- spec/98, line 173: `FLE.D x5,f6,f7`. -/
theorem test_fleD :
    after (vec .rv32 [.F, .D] 32 0xA27302D3 [] (fs := [(6, 0x3FF0000000000000), (7, 0x7FF0000000000001)]))
      [.x 5, .fcsr] = some [0, 0x10] := by
  decide

/-- spec/98, line 170: `FLE.Q x5,f6,f7`. -/
theorem test_fleQ :
    after (vec .rv64 [.F, .D, .Q] 32 0xA67302D3 [] (fs := [(6, 0x3FFF0000000000000000000000000000), (7,
      0x3FFF0000000000000000000000000001)])) [.x 5, .fcsr] = some [1, 0] := by
  decide

/-- spec/98, line 186: `FCLASS.S x5,f6`. -/
theorem test_fclassS :
    after (vec .rv32 [.F] 32 0xE00312D3 [] (fs := [(6, 0xFFBFFFFF)])) [.x 5, .fcsr] = some [0x100, 0] :=
      by
  decide

/-- spec/98, line 187: `FCLASS.D x5,f6`. -/
theorem test_fclassD :
    after (vec .rv32 [.F, .D] 32 0xE20312D3 [] (fs := [(6, 0xFFFFFFFFFFFFF)])) [.x 5, .fcsr] = some [0x20,
      0] := by
  decide

/-- spec/98, line 190: `FCLASS.Q x5,f6`. -/
theorem test_fclassQ :
    after (vec .rv64 [.F, .D, .Q] 32 0xE60312D3 [] (fs := [(6, 0xFFFF0000000000000000000000000000)])) [.x
      5, .fcsr] = some [1, 0] := by
  decide

/-- 1 + 2 = 3 in double precision. -/
theorem test_faddD :
    after (vec .rv32 [.F, .D] 32 0x027302D3 [] (fs := [(6, 0x3FF0000000000000), (7, 0x4000000000000000)]))
      [.f 5, .fcsr] = some [0x4008000000000000, 0] := by
  decide

/-- R355 on eight bytes. -/
theorem test_amoswapD :
    after (vec .rv64 [.A] 32 0x087332AF [(6, 0x2000), (7, 0x11)] (mem := [(0x2000, [1, 2, 3, 4, 5, 6, 7, 8])]))
      [.x 5, .bytes 0x2000 8] = some [0x0807060504030201, 0x11] := by
  decide

/-- An SC.D without a reservation fails (R343). -/
theorem test_scD :
    after (vec .rv64 [.A] 32 0x187332AF [(6, 0x2000), (7, 0x11)]) [.x 5, .held] =
      some [1, 0] := by
  decide

/-- A stale byte is not fetched (R77). -/
theorem test_stale :
    ends { vec .rv32 [] 32 0x00000013 [] with stale := [0x1003] } = some (.inr .staleFetch) := by
  decide

/-! ### Witnesses: states and operands that meet the hypotheses of each obligation -/

/-- Whether an instruction completes. -/
def runs (i : Instr) (s : State) : Bool :=
  match exec i s with
  | .next _ => true
  | _ => false

/-- Whether a step completes. -/
def goes (s : State) : Bool :=
  match step s with
  | .next _ => true
  | _ => false

theorem exists_of_runs {i : Instr} {s : State} (h : runs i s = true) : ∃ t, exec i s = .next t := by
  unfold runs at h
  split at h
  · exact ⟨_, ‹_›⟩
  · cases h

theorem exists_of_goes {s : State} (h : goes s = true) : ∃ t, step s = .next t := by
  unfold goes at h
  split at h
  · exact ⟨_, ‹_›⟩
  · cases h

/-- RV32 and RV64 with every letter, `x5` all ones, `x6` one, `x7` and `x8` in the data. -/
def w32 : State := vec .rv32 [.M, .A, .F, .D, .Q, .C] 32 0x13 [(5, 0xFFFFFFFF), (6, 1), (7, 0x2000), (8, 0x2001)]
def w64 : State :=
  vec .rv64 [.M, .A, .F, .D, .Q, .C] 32 0x13 [(5, 0xFFFFFFFFFFFFFFFF), (6, 1), (7, 0x2000), (8, 0x2001)]
/-- RV32I alone: instructions are aligned to four bytes. -/
def w32i : State := vec .rv32 [] 32 0x13 [(5, 0xFFFFFFFF), (6, 1), (7, 0x2000), (8, 0x2001)]
/-- RV64 with `MISALIGNED = split`. -/
def wSplit : State := { w64 with cfg := { w64.cfg with misaligned := .split } }
/-- RV64 with a read-only and a write-only byte. -/
def wHalves : State :=
  { w64 with cfg := { w64.cfg with memMap := [⟨0x2000, 8, true, false, false⟩, ⟨0x2008, 8, false, true, false⟩] } }

theorem witness_launch_starts : ∃ t, Launch.standard.start = .next t := by
  have h : (match Launch.standard.start with | .next _ => true | _ => false) = true := by decide
  split at h
  · exact ⟨_, ‹_›⟩
  · cases h
theorem witness_launch_widths :
    Launch.standard.xlenBits = Xlen.bits .rv64 ∧ Launch.standard.nHarts = 1 ∧ Launch.standard.baseE = false ∧ Launch.standard.future = [] ∧
      configAdmitted { Launch.standard.cfg with xlen := .rv64 } = true ∧
      configAdmitted (cfgOf .rv32 [.C] 0x1000) = true := by decide
theorem witness_launch_refused :
    { Launch.standard with xlenBits := 128 }.xlenBits = 128 ∧ { Launch.standard with nHarts := 2 }.nHarts ≠ 1 ∧
      { Launch.standard with baseE := true }.baseE = true ∧
      { Launch.standard with future := [.N] }.future ≠ [] ∧ Launch.standard.baseE = false ∧
      { Launch.standard with xlenBits := 0 }.xlenBits ≠ 32 ∧ { Launch.standard with xlenBits := 0 }.xlenBits ≠ 64 := by
  decide
/-- Admitted parameters, and parameters that each clause turns away. -/
theorem witness_launch_parameters :
    let c := Config.standard
    (c.ext.d = true → c.ext.f = true) ∧ (∀ r ∈ c.memMap, r.base + r.size ≤ 2 ^ Xlen.bits .rv64) ∧
      c.resetPc.toNat < 2 ^ Xlen.bits .rv64 ∧ c.resetPc.toNat % c.ialignBytes = 0 ∧ c.resGran = 2 ^ 0 ∧
      (exts [.D]).d = true ∧ (exts [.D]).f ≠ true ∧ ¬ 2 ^ 64 + 1 ≤ 2 ^ Xlen.bits .rv64 := by decide
theorem witness_step_keeps :
    (State.reset.withFetchWord 32 0x003100B3).ok = true ∧
      ∃ t, step (State.reset.withFetchWord 32 0x003100B3) = .next t :=
  ⟨by decide, exists_of_goes (by decide)⟩
theorem witness_decode_encode :
    Instr.wellFormed Config.standard (.slli 1#5 2#5 63#6) = true ∧
      Instr.wellFormed Config.standard (.cAddi16sp 0x3F0#10) = true ∧
      Instr.wellFormed (cfgOf .rv32 [.F, .C] 0) (.cFlw 7#3 0#3 124#7) = true ∧
      Instr.wellFormed Config.standard (.frcsr 31#5) = true := by decide
theorem witness_encode_decode :
    decode Config.standard (.word 0x003100B3) = .ok (.add 1#5 2#5 3#5) ∧
      decode Config.standard (.half 0x4588) = .ok (.cLw 2#3 3#3 8#7) := by decide
theorem witness_step_runs_word :
    let s := vec .rv64 [] 32 0x003100B3 []
    (∀ k, k < Encoded.size (.word 0x003100B3) → s.allows .execute (byteAddr s.cfg.xlen s.pc k) = true ∧
      byteAddr s.cfg.xlen s.pc k ∉ s.stale ∧
      s.readByte (byteAddr s.cfg.xlen s.pc k) =
        BitVec.ofNat 8 ((Encoded.word 0x003100B3).zext.toNat / 2 ^ (8 * k))) ∧
      (0x003100B3#32).extractLsb' 0 2 = 0b11#2 ∧ decode s.cfg (.word 0x003100B3) = .ok (.add 1#5 2#5 3#5) := by
  decide
theorem witness_step_runs_half :
    let s := vec .rv64 [.C] 16 0x4588 []
    (∀ k, k < Encoded.size (.half 0x4588) → s.allows .execute (byteAddr s.cfg.xlen s.pc k) = true ∧
      byteAddr s.cfg.xlen s.pc k ∉ s.stale ∧
      s.readByte (byteAddr s.cfg.xlen s.pc k) =
        BitVec.ofNat 8 ((Encoded.half 0x4588).zext.toNat / 2 ^ (8 * k))) ∧
      (0x4588#16).extractLsb' 0 2 ≠ 0b11#2 ∧ decode s.cfg (.half 0x4588) = .ok (.cLw 2#3 3#3 8#7) := by
  decide
/-- At the last bytes of the code region: the first parcel absent in its second byte, the second
parcel absent, and each byte stale in turn. -/
theorem witness_fetch :
    let s := vec .rv32 [.C] 32 0x13 []
    let cut : State := { s with pc := 0x1FFF#64 }
    let half : State := { s with pc := 0x1FFE#64, mem := [(0x1FFE, 0x13)] }
    let ok (s : State) (k : Nat) := s.allows .execute (byteAddr s.cfg.xlen s.pc k)
    let long (s : State) := (s.readByte (byteAddr s.cfg.xlen s.pc 0)).extractLsb' 0 2 = 0b11#2
    (ok cut 0 = true ∧ ok cut 1 = false) ∧
      (ok half 0 = true ∧ ok half 1 = true ∧ ok half 2 = false ∧ long half) ∧
      (ok s 0 = true ∧ ok s 1 = true ∧ ok s 2 = true ∧ ok s 3 = true ∧ long s) ∧
      (byteAddr s.cfg.xlen s.pc 1 ∈ [0x1001] ∧ byteAddr s.cfg.xlen s.pc 0 ∉ [0x1003] ∧
        byteAddr s.cfg.xlen s.pc 1 ∉ [0x1003] ∧ byteAddr s.cfg.xlen s.pc 3 ∈ [0x1003]) := by
  decide
/-- A short parcel in the last two bytes of the code region, the bytes after it absent, runs. -/
theorem witness_fetch_short :
    let s : State := { vec .rv32 [.C] 32 0x13 [] with pc := 0x1FFE#64, mem := [(0x1FFE, 0x01)] }
    s.allows .execute (byteAddr s.cfg.xlen s.pc 0) = true ∧ s.allows .execute (byteAddr s.cfg.xlen s.pc 1) = true ∧
      s.stale = [] ∧ (s.readByte (byteAddr s.cfg.xlen s.pc 0)).extractLsb' 0 2 ≠ 0b11#2 ∧
      s.allows .execute (byteAddr s.cfg.xlen s.pc 2) = false ∧ (after s [.pc]) = some [0x2000] := by decide
/-- Off-card instructions that `OFFCARD = on` decodes. -/
theorem witness_off_card :
    Config.standard.offCard = .on ∧ Instr.wellFormed Config.standard (.subw 1#5 2#5 3#5) = true ∧
      Instr.wellFormed Config.standard (.cAddi16sp 0x1F0#10) = true ∧
      Instr.wellFormed Config.standard (.fsflagsi 1#5 31#5) = true ∧
      Instr.wellFormed (cfgOf .rv32 [.F, .C] 0) (.cFswsp 31#5 0xFC#8) = true ∧
      Instr.wellFormed Config.standard (.cSrai 7#3 63#6) = true ∧ Config.standard.ext.c = true := by decide
theorem witness_undecodable :
    decode (cfgOf .rv64 [.C] 0) (.half 0x8000) = .error (.noRow16 0x8000) ∧
      decode (cfgOf .rv64 [] 0) (.word 0x0000705B) = .error (.noRow32 0x0000705B) ∧
      ends (vec .rv64 [.C] 16 0x8000 []) = some (.inl (.illegalInstruction 0x8000)) ∧
      ends (vec .rv64 [] 32 0x0000705B []) = some (.inl (.illegalInstruction 0x0000705B)) ∧
      (0x0000705B#32).extractLsb' 2 5 = 0b10110#5 := by decide
theorem witness_shift_amounts :
    (31#6).toNat < w32.cfg.xlen.bits ∧ (0#6).toNat < w32.cfg.xlen.bits ∧ (63#6).toNat < w64.cfg.xlen.bits := by
  decide
theorem witness_rv64 : w64.cfg.xlen = .rv64 ∧ w32.cfg.xlen = .rv32 := by decide
/-- Each condition holds of one pair of registers and fails of another; with an aligned and with a
misaligned target. -/
theorem witness_branches :
    (w32i.pcRel 8#13).toNat % w32i.cfg.ialignBytes = 0 ∧ (w32i.pcRel 6#13).toNat % w32i.cfg.ialignBytes ≠ 0 ∧
      (w32i.pcRel 0x1000#13).toNat % w32i.cfg.ialignBytes = 0 ∧
      w32i.ux 5#5 = w32i.ux 5#5 ∧ w32i.ux 5#5 ≠ w32i.ux 6#5 ∧ w32i.sx 5#5 < w32i.sx 6#5 ∧
      ¬ w32i.sx 6#5 < w32i.sx 5#5 ∧ w32i.ux 6#5 < w32i.ux 5#5 ∧ ¬ w32i.ux 5#5 < w32i.ux 6#5 ∧
      w32i.sx 6#5 ≥ w32i.sx 5#5 ∧ ¬ w32i.sx 5#5 ≥ w32i.sx 6#5 ∧ w32i.ux 5#5 ≥ w32i.ux 6#5 ∧
      ¬ w32i.ux 6#5 ≥ w32i.ux 5#5 := by decide
theorem witness_jumps :
    (w32i.pcRel 0x100000#21).toNat % w32i.cfg.ialignBytes = 0 ∧
      (w32i.pcRel 2#21).toNat % w32i.cfg.ialignBytes ≠ 0 ∧
      (w32i.jalrTarget 7#5 0xFFC#12).toNat % w32i.cfg.ialignBytes = 0 ∧
      (w32i.jalrTarget 7#5 2#12).toNat % w32i.cfg.ialignBytes ≠ 0 := by decide
theorem witness_little_endian : 0 < 16 ∧ 15 < 16 ∧ w64.mem.wf = true := by decide
/-- The data region from its first to its last byte, for every width. -/
theorem witness_loads :
    accessible w64 .read (w64.ea 7#5 0#12) 1 ∧ accessible w64 .read (w64.ea 7#5 0xFF#12) 1 ∧
      accessible w64 .read (w64.ea 7#5 0xFE#12) 2 ∧ accessible w64 .read (w64.ea 7#5 0xFC#12) 4 ∧
      accessible w64 .read (w64.ea 7#5 0xF8#12) 8 ∧ accessible wSplit .read (wSplit.ea 8#5 0#12) 8 ∧
      accessible w32 .read (w32.ea 7#5 0xFC#12) 4 := by
  unfold accessible; decide
theorem witness_loads_trap :
    w64.cfg.misaligned = .trap ∧ (w64.ea 8#5 0#12).toNat % 2 ≠ 0 ∧ (w64.ea 8#5 0#12).toNat % 16 ≠ 0 ∧
      (w64.ea 7#5 0x100#12).toNat % 16 = 0 ∧
      w64.allows .read (byteAddr w64.cfg.xlen (w64.ea 7#5 0x100#12) 0) = false ∧
      wSplit.cfg.misaligned = .split ∧
      wSplit.allows .read (byteAddr wSplit.cfg.xlen (wSplit.ea 8#5 0xFE#12) 1) = false := by decide
theorem witness_stores :
    w64.mem.wf = true ∧ accessible w64 .write (w64.ea 7#5 0xFF#12) 1 ∧
      accessible w64 .write (w64.ea 7#5 0xFE#12) 2 ∧ accessible w64 .write (w64.ea 7#5 0xFC#12) 4 ∧
      accessible w64 .write (w64.ea 7#5 0xF8#12) 8 ∧ w32.mem.wf = true ∧
      accessible w32 .write (w32.ea 7#5 0#12) 4 := by
  unfold accessible; decide
theorem witness_stores_trap :
    w64.cfg.misaligned = .trap ∧ (w64.ea 8#5 0#12).toNat % 2 ≠ 0 ∧ (w64.ea 8#5 0#12).toNat % 16 ≠ 0 ∧
      (w64.ea 7#5 0x100#12).toNat % 16 = 0 ∧
      w64.allows .write (byteAddr w64.cfg.xlen (w64.ea 7#5 0x100#12) 0) = false ∧
      wSplit.cfg.misaligned = .split ∧
      wSplit.allows .write (byteAddr wSplit.cfg.xlen (wSplit.ea 8#5 0xFE#12) 1) = false := by decide
theorem witness_load_after_store : w64.mem.wf = true ∧ (16 : Nat) ≤ 16 := by decide
theorem witness_wfi :
    w64.cfg.wfiMode = .refuse ∧ State.reset.cfg.wfiMode = .nop := by decide
theorem witness_csr_traps :
    w64.csrAt 0x300#12 = none ∧ w64.csrAt 0xC80#12 = none ∧ (0xC00#12).extractLsb' 10 2 = 0b11#2 ∧
      (0xBFF#12).extractLsb' 10 2 ≠ 0b11#2 ∧ (1#5) ≠ 0#5 := by decide
theorem witness_csr_table :
    w64.cfg.csrExtra = [] ∧ w64.cfg.ext.f = true ∧ w32i.cfg.ext.f = false ∧
      0x7C0#12 ∉ [1#12, 2#12, 3#12, 0xC00#12, 0xC01#12, 0xC02#12, 0xC80#12, 0xC81#12, 0xC82#12] := by decide
theorem witness_csr_extra :
    ∃ e ∈ ({ w64 with cfg := { w64.cfg with csrExtra := [⟨0x7C0#12, 0xFF⟩] } } : State).cfg.csrExtra,
      e.number = 0x7C0#12 := by decide
/-- A CSR of `CsrExtra` that can be written, and a read-only one. -/
theorem witness_csr_extra_access :
    let s : State := { w64 with cfg := { w64.cfg with csrExtra := [⟨0x7C0#12, 0xFF⟩, ⟨0xFC0#12, 0xFF⟩] } }
    s.csrAt 0x7C0#12 = some (.extra ⟨0x7C0#12, 0xFF⟩) ∧ (0x7C0#12).extractLsb' 10 2 ≠ 0b11#2 ∧
      s.csrAt 0xFC0#12 = some (.extra ⟨0xFC0#12, 0xFF⟩) ∧ (0xFC0#12).extractLsb' 10 2 = 0b11#2 := by decide
theorem witness_fp_status :
    w64.cfg.ext.f = true ∧ w32.cfg.ext.f = true ∧ w64.cfg.offCard = .on := by decide
theorem witness_completed : ∃ t, exec (.add 1#5 5#5 6#5) w64 = .next t := exists_of_runs (by decide)
theorem witness_amos :
    w64.mem.wf = true ∧ accessibleAtomic w64 [.read, .write] (w64.readX 7#5) (32 / 8) ∧
      accessibleAtomic w64 [.read, .write] (w64.readX 7#5) (64 / 8) := by
  unfold accessibleAtomic; decide
theorem witness_load_reserved :
    accessibleAtomic w64 [.read] (w64.readX 7#5) (32 / 8) ∧
      accessibleAtomic w64 [.read] (w64.readX 7#5) (64 / 8) := by
  unfold accessibleAtomic; decide
/-- A held reservation that covers the bytes of an SC, and one that does not. -/
theorem witness_store_conditional :
    let s : State := { w64 with reservation := some ⟨0x2000, 8⟩ }
    accessibleAtomic s [.write] (s.readX 7#5) (64 / 8) ∧
      (∃ r base, s.reservation = some r ∧ r.size = 64 / 8 ∧ base % max s.cfg.resGran r.size = 0 ∧ base ≤ r.addr.toNat ∧
        r.addr.toNat < base + max s.cfg.resGran r.size ∧ base ≤ (s.readX 7#5).toNat ∧
        (s.readX 7#5).toNat + 64 / 8 ≤ base + max s.cfg.resGran r.size) ∧
      w64.reservation = none := by
  refine ⟨by unfold accessibleAtomic; decide, ⟨⟨0x2000, 8⟩, 0x2000, ?_⟩, ?_⟩ <;> decide
theorem witness_atomics_trap :
    (w64.readX 8#5).toNat % 4 ≠ 0 ∧ (w64.readX 8#5).toNat % 8 ≠ 0 ∧ (w64.readX 0#5).toNat % 8 = 0 ∧
      w64.allows .read (byteAddr w64.cfg.xlen (w64.readX 0#5) 7) = false ∧
      (wHalves.readX 7#5).toNat % 8 = 0 ∧
      wHalves.allows .read (byteAddr wHalves.cfg.xlen (wHalves.readX 7#5) 7) = true ∧
      wHalves.allows .write (byteAddr wHalves.cfg.xlen (wHalves.readX 7#5) 0) = false := by decide
/-- `f6` holds one boxed, `f7` one not boxed in its topmost bit. -/
def wBox : State :=
  vec .rv64 [.F, .D] 32 0x13 [] (fs := [(6, 0xFFFFFFFF3F800000), (7, 0x7FFFFFFF3F800000)])
theorem witness_boxes :
    Fmt.s.width ≤ wBox.cfg.flen ∧ Fmt.d.width ≤ wBox.cfg.flen ∧ wBox.cfg.nanBox = .boxed ∧
      (∀ k, k < wBox.cfg.flen → Fmt.s.width ≤ k → (wBox.readF 6#5).getLsbD k = true) ∧
      Fmt.s.width ≤ 63 ∧ 63 < wBox.cfg.flen ∧ (wBox.readF 7#5).getLsbD 63 = false ∧
      ({ wBox.cfg with nanBox := .unspecifiedUpper } : Config).nanBox = .unspecifiedUpper := by decide
theorem witness_float_moves :
    (Instr.fmvSX 1#5 2#5).wellFormed w64.cfg = true ∧ (Instr.fmvDX 1#5 2#5).wellFormed w64.cfg = true ∧
      (Instr.fmvXD 1#5 2#5).wellFormed w64.cfg = true := by decide
theorem witness_float_accesses :
    w64.mem.wf = true ∧ (Instr.flw 1#5 7#5 0xFC#12).wellFormed w64.cfg = true ∧
      (Instr.flq 1#5 7#5 0xF0#12).wellFormed w64.cfg = true ∧
      (Instr.fsq 7#5 1#5 0xF0#12).wellFormed w64.cfg = true ∧
      accessible w64 .read (w64.ea 7#5 0xFC#12) (Fmt.s.width / 8) ∧
      accessible w64 .read (w64.ea 7#5 0xF8#12) (Fmt.d.width / 8) ∧
      accessible w64 .read (w64.ea 7#5 0xF0#12) (Fmt.q.width / 8) ∧
      accessible w64 .write (w64.ea 7#5 0xF0#12) (Fmt.q.width / 8) := by
  unfold accessible; decide
theorem witness_rounding_modes :
    (4#3).toNat < 5 ∧ (7#3).toNat = 7 ∧ (5#3).toNat = 5 ∧ (6#3).toNat = 6 ∧
      5 ≤ ({ w64 with fcsr := 0xA0#8 } : State).frm.toNat ∧ ({ w64 with fcsr := 0x80#8 } : State).frm.toNat = 4 := by
  decide
/-- Both ways to a rounding mode, and a format that each width has room for. -/
theorem witness_arithmetic :
    w64.resolve 4#3 = some .rmm ∧ ({ w64 with fcsr := 0x60#8 } : State).resolve 7#3 = some .rup ∧
      (Instr.faddS 1#5 2#5 3#5 0#3).wellFormed w64.cfg = true ∧
      (Instr.fsqrtQ 1#5 2#5 0#3).wellFormed w64.cfg = true ∧
      (Instr.fmaddD 1#5 2#5 3#5 4#5 0#3).wellFormed w32.cfg = true := by decide
theorem witness_invalid_operations :
    (Fmt.s.unpack 0x7FC00000).isNaN = true ∧ (Fmt.s.unpack 0x7F800001).isSignaling = true ∧
      Fmt.s.unpack 0x7F800000 = .inf false ∧ Fmt.s.unpack 0xFF800000 = .inf true ∧
      Fmt.s.unpack 0 = .finite false 0 (-149) ∧ Fmt.s.unpack 0x80000000 = .finite true 0 (-149) ∧
      Fmt.s.unpack 0xBF800000 = .finite true (0x7FFFFF + 1) (-23) ∧
      Fmt.s.unpack 1 = .finite false (0 + 1) (-149) := by decide
/-- Infinite products: an infinity times a nonzero number, and times an infinity; zero times infinity. -/
theorem witness_infinite_products :
    Fmt.s.unpack 0x7F800000 = .inf false ∧ Fmt.s.unpack 0xBF800000 = .finite true 0x800000 (-23) ∧
      (Fmt.s.unpack 0xBF800000).isNaN = false ∧ (true != (false != true)) = false ∧
      Fmt.s.sign 0xBF800000 = true ∧ Fmt.s.sign 0x7F800000 = false := by decide
/-- Exact sums, products and fused ones of 1, 2 and the smallest subnormal raise no flag; 2 / 2 and the
root of 1 neither; a difference of equals is zero, and 1 + 2 is not. -/
theorem witness_exact :
    Fmt.s.unpack 0x3F800000 = .finite false 0x800000 (-23) ∧ Fmt.s.unpack 0x40000000 = .finite false 0x800000 (-22) ∧
      (Fmt.s.add .rne 0x3F800000 0x40000000).2 = noFlags ∧ (Fmt.s.sub .rup 0x3F800000 0x40000000).2 = noFlags ∧
      (Fmt.s.mul .rne 0x40000000 1).2 = noFlags ∧
      (Fmt.s.fma .rne true false 0x3F800000 0x40000000 0x3F800000).2 = noFlags ∧
      (Fmt.s.div .rne 0x40000000 0x40000000).2 = noFlags ∧ (Fmt.s.sqrt .rne 0x3F800000).2 = noFlags ∧
      Fmt.s.sub .rdn 0x3F800000 0x3F800000 = (0x80000000, noFlags) ∧
      Fmt.s.add .rne 0x3F800000 0x40000000 = (0x40400000, noFlags) := by decide
theorem witness_nonzero_sum :
    FVal.toRat (Fmt.s.unpack 0x3F800000) + FVal.toRat (Fmt.s.unpack 0x40000000) ≠ 0 ∧
      0 < FVal.toRat (Fmt.s.unpack 0x3F800000) ∧
      (if true then (-1 : Rat) else 1) * (FVal.toRat (Fmt.s.unpack 0x3F800000) *
        FVal.toRat (Fmt.s.unpack 0x40000000)) + FVal.toRat (Fmt.s.unpack 0x3F800000) ≠ 0 := by
  have h1 : Fmt.s.unpack 0x3F800000 = .finite false 0x800000 (-23) := by decide
  have h2 : Fmt.s.unpack 0x40000000 = .finite false 0x800000 (-22) := by decide
  rw [h1, h2]
  norm_num [FVal.toRat]
theorem witness_from_integers :
    w64.resolve 0#3 = some .rne ∧ (Instr.fcvtSW 1#5 5#5 0#3).wellFormed w32.cfg = true ∧
      (Instr.fcvtQLU 1#5 5#5 0#3).wellFormed w64.cfg = true ∧ -(2 : Int) ^ 63 ≤ -2 ^ 63 ∧
      (2 : Int) ^ 64 - 1 < 2 ^ 64 ∧ (0 : Int).natAbs ≤ 2 ^ (Fmt.s.fracBits + 1) ∧
      (Fmt.s.fromInt .rne 16777217).2 = flagNX := by decide
/-- A NaN, the infinities, and finite values below, inside and above the range of 32 signed bits. -/
theorem witness_to_integers :
    (Instr.fcvtWS 1#5 2#5 0#3).wellFormed w32.cfg = true ∧ (Instr.fcvtLUQ 1#5 2#5 0#3).wellFormed w64.cfg = true ∧
      Fmt.s.unpack 0x7FC00000 = .nan false ∧ Fmt.s.unpack 0x7F800000 = .inf false ∧
      Fmt.s.unpack 0xFF800000 = .inf true ∧ Fmt.s.unpack 0x4F000000 = .finite false 0x800000 8 ∧
      (2 : Int) ^ 31 - 1 < ((roundAt .rtz false 0x800000 8 0).1 : Int) ∧
      Fmt.s.unpack 0xCF000001 = .finite true 0x800001 8 ∧
      -((roundAt .rtz true 0x800001 8 0).1 : Int) < -(2 : Int) ^ 31 ∧
      -((roundAt .rtz true 0x800000 8 0).1 : Int) = -(2 : Int) ^ 31 := by decide
theorem witness_formats :
    (Instr.fcvtDQ 1#5 2#5 0#3).wellFormed w64.cfg = true ∧ Fmt.d.unpack 0x7FF0000000000001 = .nan true ∧
      Fmt.d.unpack 0x7FF8000000000000 = .nan false ∧ Fmt.d.unpack 0xFFF0000000000000 = .inf true ∧
      Fmt.d.unpack 0x8000000000000000 = .finite true 0 (-1074) ∧
      Fmt.d.unpack 0x7FEFFFFFFFFFFFFF = .finite false (0x1FFFFFFFFFFFFE + 1) 971 ∧ Fmt.s.unpack 1 = .finite false 1 (-149) ∧
      Fmt.d.unpack 1 = .finite false 1 (-1074) := by decide
theorem witness_sign_injection :
    (Instr.fsgnjS 1#5 2#5 3#5).wellFormed w32.cfg = true ∧ (Instr.fsgnjxQ 1#5 2#5 3#5).wellFormed w64.cfg = true ∧
      0 < Fmt.s.width - 1 ∧ 30 < Fmt.s.width - 1 := by decide
theorem witness_min_max :
    (Instr.fminS 1#5 2#5 3#5).wellFormed w32.cfg = true ∧ (Instr.fmaxQ 1#5 2#5 3#5).wellFormed w64.cfg = true ∧
      w64.cfg.fMinMax = .v20 ∧ (Fmt.s.unpack 0x7FC00000).isNaN = true ∧
      (Fmt.s.unpack 0x7F800001).isSignaling = true ∧ (Fmt.s.unpack 0x7FC00000).isSignaling = false ∧
      (Fmt.s.unpack 0x3F800000).isNaN = false ∧ Fmt.s.orderKey 0x3F800000 < Fmt.s.orderKey 0x40000000 ∧
      Fmt.s.orderKey 0x80000000 = Fmt.s.orderKey 0 ∧ Fmt.s.sign 0x80000000 ≠ Fmt.s.sign 0 := by decide
theorem witness_comparisons :
    (Instr.feqS 1#5 2#5 3#5).wellFormed w32.cfg = true ∧ (Instr.fleQ 1#5 2#5 3#5).wellFormed w64.cfg = true ∧
      (Fmt.s.unpack 0x7FC00000).isNaN = true ∧ Fmt.s.unpack 0x80000000 = .finite true 0 (-149) ∧
      Fmt.s.unpack 0 = .finite false 0 (-149) ∧ Fmt.s.unpack 0xFF800000 = .inf true ∧
      Fmt.s.unpack 0x7F800000 = .inf false ∧
      (Fmt.s.lt 0xFF800000 0x7F800000) = (true, noFlags) := by decide
theorem witness_classes :
    (Instr.fclassS 1#5 2#5).wellFormed w32.cfg = true ∧ (Instr.fclassQ 1#5 2#5).wellFormed w64.cfg = true ∧
      Fmt.s.unpack 0xFF800000 = .inf true ∧ Fmt.s.unpack 0x7F800001 = .nan true ∧
      Fmt.s.unpack 0x007FFFFF = .finite false 0x7FFFFF (-149) ∧ 0x7FFFFF < 2 ^ Fmt.s.fracBits ∧
      Fmt.s.unpack 0x00800000 = .finite false 0x800000 (-149) ∧ 2 ^ Fmt.s.fracBits ≤ 0x800000 := by decide
theorem witness_compressed_accesses :
    let s : State := (w64.writeX 2#5 0x2000).writeX 9#5 0x2000
    s.mem.wf = true ∧ s.cfg.xlen = .rv64 ∧
      accessible s .read (BitVec.ofNat 64 ((s.ux 9#5 + (124#7).toNat) % s.modulus)) 4 ∧
      accessible s .read (BitVec.ofNat 64 ((s.ux 9#5 + (0xF8#8).toNat) % s.modulus)) 8 ∧
      accessible s .write (BitVec.ofNat 64 ((s.ux 2#5 + (0xFC#8).toNat) % s.modulus)) 4 ∧
      accessible s .write (BitVec.ofNat 64 ((s.ux 2#5 + (0xF8#9).toNat) % s.modulus)) 8 ∧
      (Instr.cFld 1#3 1#3 0xF8#8).wellFormed s.cfg = true ∧
      (Instr.cFlwsp 1#5 0xFC#8).wellFormed w32.cfg = true := by
  unfold accessible; decide
theorem witness_compressed_transfers :
    w32.cfg.ext.c = true ∧ w32.pc.toNat % 2 = 0 ∧ (0x100#9).toNat % 2 = 0 ∧ (0x7FE#12).toNat % 2 = 0 ∧
      w32.ux 9#5 = 0 ∧ w32.ux 8#5 ≠ 0 := by decide

/-- R120: the canonical NOP is the word 0x00000013, and R128 swaps the registers of `bgtu`. -/
theorem test_pseudo_expansions :
    Pseudo.nop.expand = .addi 0#5 0#5 0#12 ∧ decodeTableWord 32 0x00000013 = some Pseudo.nop.expand ∧
      decodeTableWord 32 0x00008067 = some Pseudo.ret.expand ∧
      (Pseudo.bgtu 5#5 6#5 8#13).expand = .bltu 6#5 5#5 8#13 := by decide

end Sys2Proof.Tests
end

section
/-! The proof of O6: where every byte of an encoded instruction stands in memory, executable and fresh,
the parcels of `Fetch(pc)` (R77) are the instruction's own and the step runs what they decode to. -/

namespace Sys2Proof.Machine

/-! ### Little-endian pieces of a number -/

/-- The bits of a number from `b` up, placed above its `b` low bits, are its low bits. -/
theorem ofNat_div_append_ofNat (a b n : Nat) :
    BitVec.ofNat a (n / 2 ^ b) ++ BitVec.ofNat b n = BitVec.ofNat (a + b) n := by
  apply BitVec.eq_of_getLsbD_eq
  intro j hj
  rw [BitVec.getLsbD_append, BitVec.getLsbD_ofNat, BitVec.getLsbD_ofNat, BitVec.getLsbD_ofNat]
  by_cases hb : j < b
  · simp [hb, hj]
  · have ha : j - b < a := by omega
    have hsum : j - b + b = j := by omega
    simp [hb, hj, ha, Nat.testBit_div_two_pow, hsum]

/-! ### Fetching from bytes that hold code -/

/-- Byte `k` from the pc is executable and fresh, and is byte `k` of the little-endian number `n` (R62,
R77). -/
def State.holdsCode (s : State) (n k : Nat) : Prop :=
  s.allows .execute (byteAddr s.cfg.xlen s.pc k) = true ∧ byteAddr s.cfg.xlen s.pc k ∉ s.stale ∧
    s.readByte (byteAddr s.cfg.xlen s.pc k) = BitVec.ofNat 8 (n / 2 ^ (8 * k))

/-- A parcel of two executable and fresh bytes is fetched (R77): the converse of `fetchParcel_next`. -/
theorem State.fetchParcel_of_fresh {s : State} {off : Nat}
    (hx0 : s.allows .execute (byteAddr s.cfg.xlen s.pc off) = true)
    (hx1 : s.allows .execute (byteAddr s.cfg.xlen s.pc (off + 1)) = true)
    (hf0 : byteAddr s.cfg.xlen s.pc off ∉ s.stale) (hf1 : byteAddr s.cfg.xlen s.pc (off + 1) ∉ s.stale)
    (k : BitVec 16 → Res) :
    s.fetchParcel off k =
      k (s.readByte (byteAddr s.cfg.xlen s.pc (off + 1)) ++ s.readByte (byteAddr s.cfg.xlen s.pc off)) := by
  simp [State.fetchParcel, hx0, hx1, hf0, hf1]

/-- A parcel whose bytes hold code is the 16 bits of the number at its offset. -/
theorem State.fetchParcel_of_holdsCode {s : State} {n off : Nat} (h0 : s.holdsCode n off)
    (h1 : s.holdsCode n (off + 1)) (k : BitVec 16 → Res) :
    s.fetchParcel off k = k (BitVec.ofNat 16 (n / 2 ^ (8 * off))) := by
  obtain ⟨hx0, hf0, hb0⟩ := h0
  obtain ⟨hx1, hf1, hb1⟩ := h1
  have next_byte : n / 2 ^ (8 * (off + 1)) = n / 2 ^ (8 * off) / 2 ^ 8 := by
    rw [Nat.div_div_eq_div_mul, ← pow_add, Nat.mul_succ]
  rw [State.fetchParcel_of_fresh hx0 hx1 hf0 hf1, hb0, hb1, next_byte]
  exact congrArg k (ofNat_div_append_ofNat 8 8 _)

/-- A half word whose two bytes stand at the pc is fetched, whatever follows it (R77). -/
theorem State.fetch_half {s : State} {p : BitVec 16} (hcode : ∀ k, k < 2 → s.holdsCode p.toNat k)
    (hlow : p.extractLsb' 0 2 ≠ 0b11#2) (k : Encoded → Res) : s.fetch k = k (.half p) := by
  have parcel_eq : BitVec.ofNat 16 (p.toNat / 2 ^ (8 * 0)) = p := by simp
  rw [State.fetch, State.fetchParcel_of_holdsCode (hcode 0 (by decide)) (hcode 1 (by decide)),
    parcel_eq, if_neg hlow]

/-- A word whose four bytes stand at the pc is fetched, the low parcel first (R62, R77). -/
theorem State.fetch_word {s : State} {w : BitVec 32} (hcode : ∀ k, k < 4 → s.holdsCode w.toNat k)
    (hlow : w.extractLsb' 0 2 = 0b11#2) (k : Encoded → Res) : s.fetch k = k (.word w) := by
  have first_low : (BitVec.ofNat 16 (w.toNat / 2 ^ (8 * 0))).extractLsb' 0 2 = 0b11#2 := by
    rw [← hlow]
    apply BitVec.eq_of_toNat_eq
    simp
  have both : BitVec.ofNat 16 (w.toNat / 2 ^ (8 * 2)) ++ BitVec.ofNat 16 (w.toNat / 2 ^ (8 * 0)) = w := by
    rw [Nat.mul_zero, pow_zero, Nat.div_one, ofNat_div_append_ofNat 16 16, BitVec.ofNat_toNat]
    exact BitVec.setWidth_eq w
  rw [State.fetch, State.fetchParcel_of_holdsCode (hcode 0 (by decide)) (hcode 1 (by decide)),
    if_pos first_low, State.fetchParcel_of_holdsCode (hcode 2 (by decide)) (hcode 3 (by decide)), both]

/-- Where the fetch gives an encoding that decodes, the step runs what it decodes to (R18, R100). -/
theorem step_of_fetch {s : State} {e : Encoded} {i : Instr}
    (hfetch : ∀ k : Encoded → Res, s.fetch k = k e) (hdecode : decode s.cfg e = .ok i) :
    step s = exec i s := by
  rw [step, State.stepWith, hfetch, hdecode]

/-- Settles O6, by the length of the encoding: a half word is one parcel, a word is two. -/
theorem stepRunsTheDecodedInstruction : Obligations.StepRunsTheDecodedInstruction := by
  unfold Obligations.StepRunsTheDecodedInstruction
  intro s e i hbytes hlow hdecode
  refine step_of_fetch ?_ hdecode
  cases e with
  | half p =>
    have zext_toNat : (Encoded.half p).zext.toNat = p.toNat := BitVec.toNat_setWidth_of_le (by decide)
    rw [zext_toNat] at hbytes
    exact State.fetch_half hbytes hlow
  | word w => exact State.fetch_word hbytes hlow

end Sys2Proof.Machine
end

section
/-! What an instruction that completes has done, said once for the whole table: a series of the state's
named updates, then `retire` or `retireTo`. The invariant (O3), the count of instructions (O32) and the
owners of each kind of state (O33) are read off it by induction over the updates. -/

namespace Sys2Proof.Machine

/-! ### The instructions that own a kind of state -/

/-- LR.W and LR.D (R342), which alone make a reservation. -/
def IsLoadReserved (i : Instr) : Prop :=
  ∃ rd rs1 aq rl, i = .lrW rd rs1 aq rl ∨ i = .lrD rd rs1 aq rl

/-- SC.W and SC.D (R343), which alone clear a reservation. -/
def IsStoreConditional (i : Instr) : Prop :=
  ∃ rd rs1 rs2 aq rl, i = .scW rd rs1 rs2 aq rl ∨ i = .scD rd rs1 rs2 aq rl

/-- The six CSR instructions and their aliases (R220, R128), which alone write CSRs. -/
def IsCsrAccess (i : Instr) : Prop :=
  (∃ rd csr rs1, i.core = .csrrw rd csr rs1 ∨ i.core = .csrrs rd csr rs1 ∨ i.core = .csrrc rd csr rs1) ∨
    ∃ rd csr z, i.core = .csrrwi rd csr z ∨ i.core = .csrrsi rd csr z ∨ i.core = .csrrci rd csr z

/-- FENCE.I (R75), which alone empties the stale set. -/
def IsFenceI (i : Instr) : Prop := ∃ x y z, i = .fenceI x y z

/-- The instruction is `n` bytes long: four, or two where its row demands C (R90, R250). -/
def HasLength (i : Instr) (c : Config) (n : Nat) : Prop :=
  n = 4 ∨ (n = 2 ∧ Letter.C ∈ (i.row c.xlen).ext)

/-- A reservation as LR makes it: of 4 or 8 aligned bytes at an address of `XLEN` bits (R342). -/
def ReservesAligned (x : Xlen) (r : Reservation) : Prop :=
  (r.size = 4 ∨ r.size = 8) ∧ r.addr.toNat % r.size = 0 ∧ xtrunc x r.addr = r.addr

/-! ### The updates of a state, and how an instruction ends -/

/-- The states that `i` may reach from `s` before it moves the pc: each update of a kind of state
that has an owner asks that `i` be one. -/
inductive Updates (i : Instr) (s : State) : State → Prop
  | none : Updates i s s
  | writeX {u : State} (h : Updates i s u) (r : RegIdx) (v : Word) : Updates i s (u.writeX r v)
  | writeBoxed {u : State} (h : Updates i s u) (m : Fmt) (r : RegIdx) (v : FWord) :
      Updates i s (u.writeBoxed m r v)
  | accrue {u : State} (h : Updates i s u) (fl : FFlags) : Updates i s (u.accrue fl)
  | writeBytes {u : State} (h : Updates i s u) (a : Word) (v n : Nat) : Updates i s (u.writeBytes a v n)
  | drawCycle {u : State} (h : Updates i s u) : Updates i s u.drawCycle
  | drawTime {u : State} (h : Updates i s u) : Updates i s u.drawTime
  | reserve {u : State} (h : Updates i s u) (hi : IsLoadReserved i) {r : Reservation}
      (hr : ReservesAligned s.cfg.xlen r) : Updates i s { u with reservation := some r }
  | unreserve {u : State} (h : Updates i s u) (hi : IsStoreConditional i) (d : Nat) :
      Updates i s { u with reservation := none, draws := d }
  | csrWrite {u : State} (h : Updates i s u) (hi : IsCsrAccess i) (c : Csr) (v : Word) :
      Updates i s (u.csrWrite c v)
  | freshen {u : State} (h : Updates i s u) (hi : IsFenceI i) : Updates i s { u with stale := [] }

/-- The states in which `i` may complete from `s`: the pc moves past `i`, or to an aligned target. -/
inductive Completed (i : Instr) (s : State) : State → Prop
  | retire {u : State} (h : Updates i s u) {n : Nat} (hn : HasLength i s.cfg n) :
      Completed i s (u.retire n)
  | retireTo {u : State} (h : Updates i s u) {a : Word} (ha : a.toNat % s.cfg.ialignBytes = 0) :
      Completed i s (u.retireTo a)

/-- An outcome that, if the run goes on, is one of `Completed`. -/
def Completes (i : Instr) (s : State) (r : Res) : Prop := ∀ t, r = .next t → Completed i s t

/-! ### One lemma for each operation that instructions share -/

section
variable {i : Instr} {s : State}

theorem completes_fault (e : Fault) : Completes i s (.fault e) := fun _ h => nomatch h

theorem completes_refused (r : Refusal) : Completes i s (.refused r) := fun _ h => nomatch h

theorem completes_retire {u : State} {n : Nat} (hn : HasLength i s.cfg n) (h : Updates i s u) :
    Completes i s (.next (u.retire n)) := by
  rintro _ ⟨⟩
  exact .retire h hn

theorem completes_finishX {u : State} {n : Nat} (hn : HasLength i s.cfg n) (h : Updates i s u)
    (rd : RegIdx) (v : Word) : Completes i s (u.finishX n rd v) := completes_retire hn (h.writeX rd v)

theorem completes_finishF {n : Nat} (hn : HasLength i s.cfg n) (m : Fmt) (rd : RegIdx)
    (r : FWord × FFlags) : Completes i s (s.finishF n m rd r) :=
  completes_retire hn ((Updates.none.writeBoxed m rd r.1).accrue r.2)

theorem completes_finishXF (rd : RegIdx) (v : Word) (fl : FFlags) : Completes i s (s.finishXF rd v fl) :=
  completes_retire (.inl rfl) ((Updates.none.writeX rd v).accrue fl)

theorem completes_load {a : Word} {n : Nat} {k : Nat → Res} (hk : ∀ v, Completes i s (k v)) :
    Completes i s (s.load a n k) := fun t h => hk _ t (State.load_next h)

theorem completes_loadSigned {n : Nat} (hn : HasLength i s.cfg n) (rd : RegIdx) (a : Word) (k : Nat) :
    Completes i s (s.loadSigned n rd a k) := completes_load fun _ => completes_finishX hn .none _ _

theorem completes_loadUnsigned {n : Nat} (hn : HasLength i s.cfg n) (rd : RegIdx) (a : Word) (k : Nat) :
    Completes i s (s.loadUnsigned n rd a k) := completes_load fun _ => completes_finishX hn .none _ _

theorem completes_loadF {n : Nat} (hn : HasLength i s.cfg n) (m : Fmt) (rd : RegIdx) (a : Word) :
    Completes i s (s.loadF n m rd a) := completes_load fun _ => completes_finishF hn _ _ _

theorem completes_store {a : Word} {k v n : Nat} (hn : HasLength i s.cfg n) :
    Completes i s (s.store a k v fun u => .next (u.retire n)) :=
  fun t h => completes_retire hn (.writeBytes .none a v k) t (State.store_next h)

theorem completes_storeX {n : Nat} (hn : HasLength i s.cfg n) (a : Word) (rs2 : RegIdx) (k : Nat) :
    Completes i s (s.storeX n a rs2 k) := completes_store hn

theorem completes_storeF {n : Nat} (hn : HasLength i s.cfg n) (m : Fmt) (a : Word) (rs2 : RegIdx) :
    Completes i s (s.storeF n m a rs2) := completes_store hn

theorem completes_jump {t : Word} {link : State → State} (h : Updates i s (link s)) :
    Completes i s (s.jump t link) := by
  intro u hu
  obtain ⟨ha, rfl⟩ := State.jump_next hu
  exact .retireTo h ha

theorem completes_jumpLink (n : Nat) (rd : RegIdx) (t : Word) : Completes i s (s.jumpLink n rd t) :=
  completes_jump (.writeX .none _ _)

theorem completes_branch {n w : Nat} (hn : HasLength i s.cfg n) (taken : Bool) (imm : BitVec w) :
    Completes i s (s.branch n taken imm) := by
  unfold State.branch
  split
  · exact completes_jump .none
  · exact completes_retire hn .none

theorem completes_amo (w : Nat) (rd rs1 rs2 : RegIdx) (op : BitVec w → BitVec w → BitVec w) :
    Completes i s (s.amo w rd rs1 rs2 op) := by
  intro t h
  obtain ⟨-, -, hnext⟩ := State.amo_next h
  exact completes_finishX (.inl rfl) (.writeBytes .none _ _ _) _ _ t hnext

theorem completes_lr {w : Nat} (hw : w / 8 = 4 ∨ w / 8 = 8) (hi : IsLoadReserved i) (rd rs1 : RegIdx) :
    Completes i s (s.lr w rd rs1) := by
  intro t h
  obtain ⟨halign, -, hnext⟩ := State.lr_next h
  have aligned : (s.readX rs1).toNat % (w / 8) = 0 := by
    simpa [misaligned, xunsigned, State.readX_xtrunc] using halign
  exact completes_finishX (.inl rfl) (.reserve .none hi ⟨hw, aligned, s.readX_xtrunc rs1⟩) _ _ t hnext

theorem completes_sc (w : Nat) (hi : IsStoreConditional i) (rd rs1 rs2 : RegIdx) :
    Completes i s (s.sc w rd rs1 rs2) := by
  intro t h
  obtain ⟨-, -, ⟨-, hnext⟩ | ⟨-, hnext⟩⟩ := State.sc_next h
  · exact completes_finishX (.inl rfl) (.unreserve (.writeBytes .none _ _ _) hi _) _ _ t hnext
  · exact completes_finishX (.inl rfl) (.unreserve .none hi _) _ _ t hnext

/-- A read of a CSR draws where it is a read of `cycle` or `time`, and changes nothing else. -/
theorem updates_csrRead {u : State} (h : Updates i s u) (c : Csr) : Updates i s (u.csrRead c).2 := by
  cases c with
  | cycle | cycleh => exact h.drawCycle
  | time | timeh => exact h.drawTime
  | fflags | frm | fcsr | instret | instreth | extra => exact h

theorem updates_csrAccess (hi : IsCsrAccess i) (rd : RegIdx) (c : Csr) (reads writes : Bool)
    (new : Word → Word) : Updates i s (s.csrAccess rd c reads writes new) := by
  cases reads with
  | false =>
    cases writes with
    | false => exact .none
    | true => exact .csrWrite .none hi _ _
  | true =>
    cases writes with
    | false => exact .writeX (updates_csrRead .none c) _ _
    | true => exact .writeX (.csrWrite (updates_csrRead .none c) hi _ _) _ _

theorem completes_csrLaw (hi : IsCsrAccess i) (j : Instr) (rd : RegIdx) (csr : BitVec 12)
    (reads writes : Bool) (new : Word → Word) : Completes i s (s.csrLaw j rd csr reads writes new) := by
  intro t h
  obtain ⟨c, -, -, rfl⟩ := State.csrLaw_next h
  exact .retire (updates_csrAccess hi rd c reads writes new) (.inl rfl)

theorem completes_csrSwap (hi : IsCsrAccess i) (j : Instr) (rd : RegIdx) (csr : BitVec 12) (v : Word) :
    Completes i s (s.csrSwap j rd csr v) := completes_csrLaw hi _ _ _ _ _ _

theorem completes_csrSet (hi : IsCsrAccess i) (j : Instr) (rd : RegIdx) (csr : BitVec 12)
    (field : BitVec 5) (v : Word) : Completes i s (s.csrSet j rd csr field v) :=
  completes_csrLaw hi _ _ _ _ _ _

theorem completes_csrClear (hi : IsCsrAccess i) (j : Instr) (rd : RegIdx) (csr : BitVec 12)
    (field : BitVec 5) (v : Word) : Completes i s (s.csrClear j rd csr field v) :=
  completes_csrLaw hi _ _ _ _ _ _

theorem completes_withRounding {j : Instr} {rm : BitVec 3} {k : Rounding → Res}
    (hk : ∀ mode, Completes i s (k mode)) : Completes i s (s.withRounding j rm k) := by
  intro t h
  obtain ⟨mode, -, hnext⟩ := State.withRounding_next h
  exact hk mode t hnext

theorem completes_roundingF (j : Instr) (m : Fmt) (rd : RegIdx) (rm : BitVec 3)
    (r : Rounding → FWord × FFlags) :
    Completes i s (s.withRounding j rm fun mode => s.finishF 4 m rd (r mode)) :=
  completes_withRounding fun _ => completes_finishF (.inl rfl) _ _ _

theorem completes_convertToInt (j : Instr) (m : Fmt) (signed : Bool) (len : Nat) (rd rs1 : RegIdx)
    (rm : BitVec 3) : Completes i s (s.convertToInt j m signed len rd rs1 rm) :=
  completes_withRounding fun _ => completes_finishXF _ _ _

theorem completes_wfi : Completes i s (execWfi s) := by
  unfold execWfi
  split
  · exact completes_refused _
  · exact completes_retire (.inl rfl) .none

end

/-! ### Every instruction -/

/-- Whatever an instruction does, it completes only as `Completed` says. An arm writes out the arguments
that unification would otherwise look for by evaluating the meaning. -/
theorem completes_exec (i : Instr) (s : State) : Completes i s (exec i s) := by
  cases i with
  | lb | lh | lw | ld => exact completes_loadSigned (.inl rfl) _ _ _
  | lbu | lhu | lwu => exact completes_loadUnsigned (.inl rfl) _ _ _
  | sb | sh | sw | sd => exact completes_storeX (.inl rfl) _ _ _
  | sll | slli | srl | srli | sra | srai | sllw | slliw | srlw | srliw | sraw | sraiw
  | add | addi | sub | addw | addiw | subw | lui | auipc | xor | xori | or | ori | and | andi
  | slt | slti | sltu | sltiu
  | mul | mulh | mulhsu | mulhu | div | divu | rem | remu | mulw | divw | divuw | remw | remuw
  | fmvXS | fmvXD => exact completes_finishX (.inl rfl) .none _ _
  | beq | bne | blt | bge | bltu | bgeu => exact completes_branch (.inl rfl) _ _
  | jal | jalr | cJ | cJr | cJal | cJalr => exact completes_jumpLink _ _ _
  | fence => exact completes_retire (.inl rfl) .none
  | fenceI => exact completes_retire (.inl rfl) (.freshen .none ⟨_, _, _, rfl⟩)
  | scall | sbreak | ecall | ebreak | cEbreak => exact completes_fault _
  | eret | mrts | mrth | hrts | sfenceVm => exact completes_refused _
  | wfi => exact completes_wfi
  | csrrw | fscsr | fsrm | fsflags => exact completes_csrSwap (.inl ⟨_, _, _, .inl rfl⟩) _ _ _ _
  | csrrwi | fsrmi | fsflagsi => exact completes_csrSwap (.inr ⟨_, _, _, .inl rfl⟩) _ _ _ _
  | rdcycle rd => exact completes_csrSet (.inl ⟨_, _, _, .inr (.inl rfl)⟩) (.rdcycle rd) rd 0xC00#12 0#5 0#64
  | rdtime rd => exact completes_csrSet (.inl ⟨_, _, _, .inr (.inl rfl)⟩) (.rdtime rd) rd 0xC01#12 0#5 0#64
  | rdinstret rd => exact completes_csrSet (.inl ⟨_, _, _, .inr (.inl rfl)⟩) (.rdinstret rd) rd 0xC02#12 0#5 0#64
  | csrrs | rdcycleh | rdtimeh | rdinstreth | frcsr | frrm | frflags =>
    exact completes_csrSet (.inl ⟨_, _, _, .inr (.inl rfl)⟩) _ _ _ _ _
  | csrrsi => exact completes_csrSet (.inr ⟨_, _, _, .inr (.inl rfl)⟩) _ _ _ _ _
  | csrrc => exact completes_csrClear (.inl ⟨_, _, _, .inr (.inr rfl)⟩) _ _ _ _ _
  | csrrci => exact completes_csrClear (.inr ⟨_, _, _, .inr (.inr rfl)⟩) _ _ _ _ _
  | cLw | cLwsp | cLd | cLdsp => exact completes_loadSigned (.inr ⟨rfl, List.mem_cons_self⟩) _ _ _
  | cSw | cSwsp | cSd | cSdsp => exact completes_storeX (.inr ⟨rfl, List.mem_cons_self⟩) _ _ _
  | cAdd | cAddw | cAddi | cAddiw | cAddi16sp | cAddi4spn | cLi | cLui | cMv | cSub | cSlli | cNop
  | cSrli | cSrai | cAndi | cXor | cOr | cAnd | cSubw =>
    exact completes_finishX (.inr ⟨rfl, List.mem_cons_self⟩) .none _ _
  | cBeqz | cBnez => exact completes_branch (.inr ⟨rfl, List.mem_cons_self⟩) _ _
  | cFlw | cFlwsp | cFld | cFldsp => exact completes_loadF (.inr ⟨rfl, List.mem_cons_self⟩) _ _ _
  | cFsw | cFswsp | cFsd | cFsdsp => exact completes_storeF (.inr ⟨rfl, List.mem_cons_self⟩) _ _ _
  | lrW => exact completes_lr (.inl rfl) ⟨_, _, _, _, .inl rfl⟩ _ _
  | lrD => exact completes_lr (.inr rfl) ⟨_, _, _, _, .inr rfl⟩ _ _
  | scW => exact completes_sc _ ⟨_, _, _, _, _, .inl rfl⟩ _ _ _
  | scD => exact completes_sc _ ⟨_, _, _, _, _, .inr rfl⟩ _ _ _
  | amoswapW => exact completes_amo 32 _ _ _ fun _ v => v
  | amoswapD => exact completes_amo 64 _ _ _ fun _ v => v
  | amoaddW | amoxorW | amoandW | amoorW | amominW | amomaxW | amominuW | amomaxuW =>
    exact completes_amo 32 _ _ _ _
  | amoaddD | amoxorD | amoandD | amoorD | amominD | amomaxD | amominuD | amomaxuD =>
    exact completes_amo 64 _ _ _ _
  | flw | fld | flq => exact completes_loadF (.inl rfl) _ _ _
  | fsw | fsd | fsq => exact completes_storeF (.inl rfl) _ _ _
  | fmvSX | fmvDX
  | fsgnjS | fsgnjD | fsgnjQ | fsgnjnS | fsgnjnD | fsgnjnQ | fsgnjxS | fsgnjxD | fsgnjxQ
  | fminS | fminD | fminQ | fmaxS | fmaxD | fmaxQ => exact completes_finishF (.inl rfl) _ _ _
  | feqS | feqD | feqQ | fltS | fltD | fltQ | fleS | fleD | fleQ | fclassS | fclassD | fclassQ =>
    exact completes_finishXF _ _ _
  | fcvtSW | fcvtDW | fcvtQW | fcvtSWU | fcvtDWU | fcvtQWU | fcvtSL | fcvtDL | fcvtQL
  | fcvtSLU | fcvtDLU | fcvtQLU | fcvtSD | fcvtDS | fcvtSQ | fcvtQS | fcvtDQ | fcvtQD
  | faddS | faddD | faddQ | fsubS | fsubD | fsubQ | fmulS | fmulD | fmulQ | fdivS | fdivD | fdivQ
  | fsqrtS | fsqrtD | fsqrtQ | fmaddS | fmaddD | fmaddQ | fmsubS | fmsubD | fmsubQ
  | fnmsubS | fnmsubD | fnmsubQ | fnmaddS | fnmaddD | fnmaddQ => exact completes_roundingF _ _ _ _ _
  | fcvtWS | fcvtLS => exact completes_convertToInt _ .s true _ _ _ _
  | fcvtWD | fcvtLD => exact completes_convertToInt _ .d true _ _ _ _
  | fcvtWQ | fcvtLQ => exact completes_convertToInt _ .q true _ _ _ _
  | fcvtWUS | fcvtLUS => exact completes_convertToInt _ .s false _ _ _ _
  | fcvtWUD | fcvtLUD => exact completes_convertToInt _ .d false _ _ _ _
  | fcvtWUQ | fcvtLUQ => exact completes_convertToInt _ .q false _ _ _ _

end Sys2Proof.Machine
end

section
/-! The proofs of O32 and O33, by induction over the updates: what each of them leaves alone. -/
namespace Sys2Proof.Machine

section
variable {i : Instr} {s u v t : State}

/-! ### What every update leaves alone -/

/-- The parameters (R47), and the pc and the count of instructions, which only the end moves. -/
theorem Updates.frame (h : Updates i s u) : u.cfg = s.cfg ∧ u.pc = s.pc ∧ u.instret = s.instret := by
  induction h with
  | none => exact ⟨rfl, rfl, rfl⟩
  | reserve _ _ _ ih | unreserve _ _ _ ih | freshen _ _ ih => exact ih
  | writeX _ _ _ ih | writeBoxed _ _ _ _ ih | accrue _ _ ih | writeBytes _ _ _ _ ih | drawCycle _ ih
  | drawTime _ ih | csrWrite _ _ _ _ ih => simpa using ih

theorem Updates.cfg_eq (h : Updates i s u) : u.cfg = s.cfg := h.frame.1

theorem Completed.cfg_eq (h : Completed i s t) : t.cfg = s.cfg := by
  cases h with
  | retire hu | retireTo hu => exact hu.cfg_eq

theorem Completed.instret_eq (h : Completed i s t) : t.instret = s.instret + 1#64 := by
  cases h with
  | retire hu | retireTo hu => simp [hu.frame]

/-! ### What only its owners change -/

theorem Updates.reservation_eq (h : Updates i s u) :
    u.reservation = s.reservation ∨ IsLoadReserved i ∨ IsStoreConditional i := by
  induction h with
  | none => exact .inl rfl
  | reserve _ hi => exact .inr (.inl hi)
  | unreserve _ hi => exact .inr (.inr hi)
  | freshen _ _ ih => exact ih
  | writeX _ _ _ ih | writeBoxed _ _ _ _ ih | accrue _ _ ih | writeBytes _ _ _ _ ih | drawCycle _ ih
  | drawTime _ ih | csrWrite _ _ _ _ ih => simpa using ih

/-- `frm` and the CSRs of `CsrExtra` are as before, and no flag is cleared (R39). -/
def KeepsCsrs (s u : State) : Prop :=
  u.frm = s.frm ∧ u.fflags &&& s.fflags = s.fflags ∧ u.extraCsrs = s.extraCsrs

theorem KeepsCsrs.congr (h : KeepsCsrs s u) (hf : v.fcsr = u.fcsr) (he : v.extraCsrs = u.extraCsrs) :
    KeepsCsrs s v := by
  simpa [KeepsCsrs, State.frm, State.fflags, hf, he] using h

theorem KeepsCsrs.accrue (h : KeepsCsrs s u) (fl : FFlags) : KeepsCsrs s (u.accrue fl) := by
  obtain ⟨hfrm, hflags, hextra⟩ := h
  refine ⟨by simpa using hfrm, ?_, hextra⟩
  rw [State.accrue_fflags]
  apply BitVec.eq_of_getLsbD_eq
  intro k hk
  have hbit := congrArg (·.getLsbD k) hflags
  simp only [BitVec.getLsbD_and, BitVec.getLsbD_or] at hbit ⊢
  cases hs : s.fflags.getLsbD k <;> simp_all

theorem Updates.keepsCsrs (h : Updates i s u) : KeepsCsrs s u ∨ IsCsrAccess i := by
  induction h with
  | none => exact .inl ⟨rfl, BitVec.and_self, rfl⟩
  | csrWrite _ hi => exact .inr hi
  | accrue _ fl ih => exact ih.imp_left (·.accrue fl)
  | reserve _ _ _ ih | unreserve _ _ _ ih | freshen _ _ ih => exact ih.imp_left (·.congr rfl rfl)
  | writeX _ _ _ ih | writeBoxed _ _ _ _ ih | writeBytes _ _ _ _ ih | drawCycle _ ih | drawTime _ ih =>
    exact ih.imp_left (·.congr (by simp) (by simp))

theorem Updates.stale_kept (h : Updates i s u) : (∀ a ∈ s.stale, a ∈ u.stale) ∨ IsFenceI i := by
  induction h with
  | none => exact .inl fun _ ha => ha
  | freshen _ hi => exact .inr hi
  | writeBytes _ a v n ih =>
    exact ih.imp_left fun kept b hb => (State.mem_stale_writeBytes _ a v n b).2 (.inr (kept b hb))
  | reserve _ _ _ ih | unreserve _ _ _ ih => exact ih
  | writeX _ _ _ ih | writeBoxed _ _ _ _ ih | accrue _ _ ih | drawCycle _ ih | drawTime _ ih
  | csrWrite _ _ _ _ ih => simpa using ih

/-- The same of the state in which an instruction completes: its end changes none of these. -/
theorem Completed.owners (h : Completed i s t) :
    (t.reservation = s.reservation ∨ IsLoadReserved i ∨ IsStoreConditional i) ∧
      (KeepsCsrs s t ∨ IsCsrAccess i) ∧ ((∀ a ∈ s.stale, a ∈ t.stale) ∨ IsFenceI i) := by
  cases h with
  | retire hu | retireTo hu => exact ⟨hu.reservation_eq, hu.keepsCsrs, hu.stale_kept⟩

end

/-- Settles O33, by the owners that each update asks for. -/
theorem stateIsChangedOnlyByItsOwnInstructions : Obligations.StateIsChangedOnlyByItsOwnInstructions := by
  unfold Obligations.StateIsChangedOnlyByItsOwnInstructions
  intro i s t h
  have done := completes_exec i s t h
  exact ⟨done.cfg_eq, done.owners⟩

/-! ### Counting -/

/-- A read of a CSR that exists, by CSRRS with `x0` (R128, R222). -/
theorem State.csrSet_read {s : State} {n : BitVec 12} {c : Csr} (hc : s.csrAt n = some c) (i : Instr)
    (rd : RegIdx) (v : Word) :
    s.csrSet i rd n 0#5 v = (s.csrRead c).2.finishX 4 rd (s.csrRead c).1 := by
  simp [State.csrSet, State.csrLaw, hc, State.csrAccess, State.finishX]

theorem State.csrAt_instret (s : State) : s.csrAt 0xC02#12 = some .instret :=
  State.csrAt_of_standard (by decide)

theorem State.csrAt_instreth {s : State} (h : s.cfg.xlen = .rv32) : s.csrAt 0xC82#12 = some .instreth := by
  simp [State.csrAt_of_standard (show 0xC82#12 ∈ standardNumbers by decide), State.standardCsr, h]

/-- Settles O32: each update leaves `instret` alone, and `retire` and `retireTo` count. -/
theorem everyCompletedInstructionIsCounted : Obligations.EveryCompletedInstructionIsCounted := by
  unfold Obligations.EveryCompletedInstructionIsCounted
  refine ⟨fun i s t h => ?_, fun s rd => ⟨?_, fun h32 => ?_⟩⟩
  · rw [(completes_exec i s t h).instret_eq, BitVec.toNat_add]
    rfl
  · refine completesX_of_finishX (State.csrSet_read s.csrAt_instret (.rdinstret rd) rd _) ?_
    simp only [State.csrRead, xtrunc_xtrunc, xtrunc_toNat]
    rfl
  · refine completesX_of_finishX (State.csrSet_read (State.csrAt_instreth h32) (.rdinstreth rd) rd _) ?_
    have := s.instret.isLt
    simp only [State.csrRead, xtrunc_toNat, BitVec.toNat_ushiftRight, Nat.shiftRight_eq_div_pow, h32, Xlen.bits]
    omega

end Sys2Proof.Machine
end

section
/-! The proof of O3: every update keeps the registers, the memory and the reservation as the invariant
has them, and both ends of an instruction keep the pc aligned. -/

namespace Sys2Proof.Machine

/-! ### The clauses of the invariant as propositions, and what they depend on -/

theorem State.ok_iff (s : State) : s.ok = true ↔ configAdmitted s.cfg = true ∧ s.registersOk = true ∧
    s.pcOk = true ∧ s.memoryOk = true ∧ s.reservationOk = true := by
  simp [State.ok, and_assoc]

theorem State.registersOk_iff (s : State) : s.registersOk = true ↔ s.x[0] = 0#64 ∧
    (∀ r : Fin 32, xtrunc s.cfg.xlen s.x[r] = s.x[r]) ∧ ∀ r : Fin 32, ftrunc s.cfg.flen s.f[r] = s.f[r] := by
  simp [State.registersOk, and_assoc]

theorem State.pcOk_iff (s : State) : s.pcOk = true ↔
    xtrunc s.cfg.xlen s.pc = s.pc ∧ s.pc.toNat % s.cfg.ialignBytes = 0 := by
  simp [State.pcOk]

theorem State.memoryOk_iff (s : State) : s.memoryOk = true ↔ s.mem.wf = true ∧
    (∀ c ∈ s.mem, c.1 < 2 ^ s.cfg.xlen.bits) ∧ risingFrom 0 s.stale = true ∧
    ∀ a ∈ s.stale, a < 2 ^ s.cfg.xlen.bits := by
  simp [State.memoryOk, and_assoc]

theorem State.reservationOk_iff (s : State) : s.reservationOk = true ↔
    ∀ r, s.reservation = some r → ReservesAligned s.cfg.xlen r := by
  unfold State.reservationOk
  cases s.reservation <;> simp [ReservesAligned, and_assoc]

section
variable {s u v : State}

theorem State.registersOk_congr (hx : v.x = u.x) (hf : v.f = u.f) (hc : v.cfg = u.cfg) :
    v.registersOk = u.registersOk := by simp [State.registersOk, hx, hf, hc]

theorem State.memoryOk_congr (hm : v.mem = u.mem) (hs : v.stale = u.stale) (hc : v.cfg = u.cfg) :
    v.memoryOk = u.memoryOk := by simp [State.memoryOk, hm, hs, hc]

theorem State.reservationOk_congr (hr : v.reservation = u.reservation) (hc : v.cfg = u.cfg) :
    v.reservationOk = u.reservationOk := by simp [State.reservationOk, hr, hc]

/-! ### The registers -/

theorem State.registersOk_writeX (h : u.registersOk = true) (r : RegIdx) (v : Word) :
    (u.writeX r v).registersOk = true := by
  by_cases hr : r = 0#5
  · rwa [hr, State.writeX_zero]
  · obtain ⟨hzero, hx, hf⟩ := u.registersOk_iff.1 h
    have nonzero : r.toNat ≠ 0 := fun h0 => hr (BitVec.eq_of_toNat_eq h0)
    refine (State.registersOk_iff _).2 ⟨?_, fun k => ?_, by simpa using hf⟩
    · simpa [State.writeX_x, hr, Vector.getElem_set_ne, nonzero] using hzero
    · have := hx k
      simp only [Fin.getElem_fin, State.writeX_x _ hr, State.writeX_cfg, Vector.getElem_set] at this ⊢
      split
      · exact xtrunc_xtrunc _ _
      · exact this

theorem State.registersOk_writeBoxed (h : u.registersOk = true) (m : Fmt) (r : RegIdx) (v : FWord) :
    (u.writeBoxed m r v).registersOk = true := by
  obtain ⟨hzero, hx, hf⟩ := u.registersOk_iff.1 h
  refine (State.registersOk_iff _).2 ⟨hzero, hx, fun k => ?_⟩
  have := hf k
  simp only [Fin.getElem_fin, State.writeBoxed_f, State.writeBoxed_cfg, Vector.getElem_set] at this ⊢
  split
  · exact ftrunc_ftrunc _ _
  · exact this

/-! ### Memory and the stale set -/

theorem State.memoryOk_writeByte (h : u.memoryOk = true) {a : Nat} (ha : a < 2 ^ u.cfg.xlen.bits) (b : Byte) :
    (u.writeByte a b).memoryOk = true := by
  obtain ⟨hwf, hmem, hrising, hstale⟩ := u.memoryOk_iff.1 h
  refine (State.memoryOk_iff _).2 ⟨Memory.wf_write hwf a b, fun c hc => ?_, ?_, fun k hk => ?_⟩
  · rcases Memory.mem_write hc with rfl | hc
    · exact ha
    · exact hmem c hc
  · exact risingFrom_mono (Nat.zero_le _) (risingFrom_staleInsert hrising a)
  · rcases mem_staleInsert.1 hk with rfl | hk
    · exact ha
    · exact hstale k hk

theorem State.memoryOk_writeBytes (h : u.memoryOk = true) (a : Word) (v n : Nat) :
    (u.writeBytes a v n).memoryOk = true := by
  induction n with
  | zero => exact h
  | succ n ih =>
    refine State.memoryOk_writeByte ih ?_ _
    rw [State.writeBytes_cfg]
    exact byteAddr_lt _ _ _

theorem State.memoryOk_freshen (h : u.memoryOk = true) : ({ u with stale := [] } : State).memoryOk = true := by
  obtain ⟨hwf, hmem, -, -⟩ := u.memoryOk_iff.1 h
  exact (State.memoryOk_iff _).2 ⟨hwf, hmem, rfl, fun _ ha => nomatch ha⟩

/-! ### The updates -/

variable {i : Instr}

theorem Updates.registersOk (h : Updates i s u) (hs : s.registersOk = true) : u.registersOk = true := by
  induction h with
  | none => exact hs
  | writeX _ r v ih => exact State.registersOk_writeX ih r v
  | writeBoxed _ m r v ih => exact State.registersOk_writeBoxed ih m r v
  | reserve _ _ _ ih | unreserve _ _ _ ih | freshen _ _ ih => exact ih
  | accrue _ _ ih | writeBytes _ _ _ _ ih | drawCycle _ ih | drawTime _ ih | csrWrite _ _ _ _ ih =>
    exact (State.registersOk_congr (by simp) (by simp) (by simp)).trans ih

theorem Updates.memoryOk (h : Updates i s u) (hs : s.memoryOk = true) : u.memoryOk = true := by
  induction h with
  | none => exact hs
  | writeBytes _ a v n ih => exact State.memoryOk_writeBytes ih a v n
  | freshen _ _ ih => exact State.memoryOk_freshen ih
  | reserve _ _ _ ih | unreserve _ _ _ ih => exact ih
  | writeX _ _ _ ih | writeBoxed _ _ _ _ ih | accrue _ _ ih | drawCycle _ ih | drawTime _ ih
  | csrWrite _ _ _ _ ih => exact (State.memoryOk_congr (by simp) (by simp) (by simp)).trans ih

theorem Updates.reservationOk (h : Updates i s u) (hs : s.reservationOk = true) : u.reservationOk = true := by
  induction h with
  | none => exact hs
  | reserve hu _ hr =>
    refine (State.reservationOk_iff _).2 fun r heq => ?_
    cases heq
    exact hu.cfg_eq ▸ hr
  | unreserve => rfl
  | freshen _ _ ih => exact ih
  | writeX _ _ _ ih | writeBoxed _ _ _ _ ih | accrue _ _ ih | writeBytes _ _ _ _ ih | drawCycle _ ih
  | drawTime _ ih | csrWrite _ _ _ _ ih => exact (State.reservationOk_congr (by simp) (by simp)).trans ih

/-- The updates keep the whole invariant: they leave the parameters and the pc alone. -/
theorem Updates.ok (h : Updates i s u) (hs : s.ok = true) : u.ok = true := by
  obtain ⟨hcfg, hregs, hpc, hmem, hres⟩ := s.ok_iff.1 hs
  obtain ⟨cfg_eq, pc_eq, -⟩ := h.frame
  refine u.ok_iff.2 ⟨by rwa [cfg_eq], h.registersOk hregs, ?_, h.memoryOk hmem, h.reservationOk hres⟩
  simpa [State.pcOk, cfg_eq, pc_eq] using hpc

/-! ### The pc -/

/-- `IALIGN` divides the address space, so an aligned number stays so modulo 2^`XLEN` (R27, R28). -/
theorem mod_modulus_mod_ialign (c : Config) (n : Nat) : n % 2 ^ c.xlen.bits % c.ialignBytes = n % c.ialignBytes := by
  apply Nat.mod_mod_of_dvd
  unfold Config.ialignBytes
  cases c.xlen <;> split <;> decide

/-- The invariant holds of a state again when an end gives it an aligned pc of `XLEN` bits. -/
theorem State.ok_of_end (hu : u.ok = true) {a : Word} (ha : (xtrunc u.cfg.xlen a).toNat % u.cfg.ialignBytes = 0)
    (k : BitVec 64) : ({ u with pc := xtrunc u.cfg.xlen a, instret := k } : State).ok = true := by
  obtain ⟨hcfg, hregs, -, hmem, hres⟩ := u.ok_iff.1 hu
  exact (State.ok_iff _).2 ⟨hcfg, hregs, (State.pcOk_iff _).2 ⟨xtrunc_xtrunc _ _, ha⟩, hmem, hres⟩

theorem State.ok_retire (hu : u.ok = true) {n : Nat} (hn : n % u.cfg.ialignBytes = 0) : (u.retire n).ok = true := by
  obtain ⟨-, -, hpc, -, -⟩ := u.ok_iff.1 hu
  obtain ⟨-, aligned⟩ := u.pcOk_iff.1 hpc
  refine State.ok_of_end hu ?_ _
  rw [show (xtrunc u.cfg.xlen (u.pc + BitVec.ofNat 64 n)).toNat = _ from byteAddr_eq u.cfg.xlen u.pc n,
    mod_modulus_mod_ialign, Nat.add_mod, aligned, hn, Nat.zero_add, Nat.zero_mod]

theorem State.ok_retireTo (hu : u.ok = true) {a : Word} (ha : a.toNat % u.cfg.ialignBytes = 0) :
    (u.retireTo a).ok = true := by
  refine State.ok_of_end hu ?_ _
  rw [xtrunc_toNat, mod_modulus_mod_ialign, ha]

/-! ### The length of a decoded instruction -/

/-- What the decoder answers is well-formed (R100). -/
theorem wellFormed_of_decode {c : Config} {e : Encoded} (h : decode c e = .ok i) : i.wellFormed c = true := by
  have checked {j : Instr} {err : DecodeError}
      (hj : (if j.wellFormed c then Except.ok j else .error err) = .ok i) : i.wellFormed c = true := by
    split at hj
    · cases hj
      assumption
    · cases hj
  cases e with
  | half p =>
    simp only [decode, decode16] at h
    split at h
    · cases h
    · exact checked h
  | word w =>
    simp only [decode, decode32] at h
    split at h
    · cases h
    · split at h
      · cases h
      · exact checked h

/-- Two bytes are an aligned step of the pc where instructions of two bytes exist, four always (R27). -/
theorem HasLength.aligned {c : Config} {n : Nat} (h : HasLength i c n) (hwf : i.wellFormed c = true) :
    n % c.ialignBytes = 0 := by
  rcases h with rfl | ⟨rfl, hC⟩
  · unfold Config.ialignBytes
    split <;> rfl
  · simp only [Instr.wellFormed, Bool.and_eq_true, List.all_eq_true] at hwf
    obtain ⟨⟨⟨-, hext⟩, -⟩, -⟩ := hwf
    have hc : c.ext.c = true := hext _ hC
    simp [Config.ialignBytes, hc]

/-- A well-formed instruction that completes keeps the invariant. -/
theorem Completed.ok {t : State} (h : Completed i s t) (hs : s.ok = true) (hwf : i.wellFormed s.cfg = true) :
    t.ok = true := by
  cases h with
  | retire hu hn => exact State.ok_retire (hu.ok hs) (by rw [hu.cfg_eq]; exact hn.aligned hwf)
  | retireTo hu ha => exact State.ok_retireTo (hu.ok hs) (by rw [hu.cfg_eq]; exact ha)

end

/-- Settles O3: a step that goes on completed an instruction that some word decodes to. -/
theorem everyStepKeepsTheInvariant : Obligations.EveryStepKeepsTheInvariant := by
  unfold Obligations.EveryStepKeepsTheInvariant
  intro s t hs h
  obtain ⟨e, i, hdecode, hexec⟩ := State.stepWith_next h
  exact (completes_exec i s t hexec).ok hs (wellFormed_of_decode hdecode)

/-- Settles O2, clause by clause: the registers are all zero and nothing is stored or reserved. -/
theorem resetMeetsTheInvariant : Obligations.ResetMeetsTheInvariant := by
  unfold Obligations.ResetMeetsTheInvariant
  exact State.reset.ok_iff.2 ⟨by decide, by decide, by decide, rfl, rfl⟩

end Sys2Proof.Machine
end

section
/-! The proof of O41: `upperBits` is all ones exactly where every bit above the value is one (R41). -/

namespace Sys2Proof.Machine

/-- A number of `w + n` bits is all ones above its `w` low bits where each of these bits is one. -/
theorem div_two_pow_eq_iff_testBit {x w n : Nat} (hx : x < 2 ^ (w + n)) :
    x / 2 ^ w = 2 ^ n - 1 ↔ ∀ k, w ≤ k → k < w + n → x.testBit k = true := by
  constructor
  · intro h k hwk hk
    have hbit : (x / 2 ^ w).testBit (k - w) = true := by
      rw [h, Nat.testBit_two_pow_sub_one]
      exact decide_eq_true (by omega)
    rwa [Nat.testBit_div_two_pow, Nat.sub_add_cancel hwk] at hbit
  · intro h
    apply Nat.eq_of_testBit_eq
    intro j
    rw [Nat.testBit_div_two_pow, Nat.testBit_two_pow_sub_one]
    by_cases hj : j < n
    · rw [h (j + w) (by omega) (by omega), decide_eq_true hj]
    · have above : x < 2 ^ (j + w) := hx.trans_le (Nat.pow_le_pow_right (by decide) (by omega))
      rw [Nat.testBit_lt_two_pow above, decide_eq_false hj]

theorem State.readF_lt (s : State) (r : RegIdx) : (s.readF r).toNat < 2 ^ s.cfg.flen := by
  simp only [State.readF, ftrunc, BitVec.toNat_setWidth]
  exact (Nat.mod_le _ _).trans_lt (Nat.mod_lt _ (Nat.two_pow_pos _))

theorem upperBits_eq_iff {s : State} {m : Fmt} (hw : m.width ≤ s.cfg.flen) (r : RegIdx) :
    upperBits s m r = 2 ^ (s.cfg.flen - m.width) - 1 ↔
      ∀ k, m.width ≤ k → k < s.cfg.flen → (s.readF r).getLsbD k = true := by
  have hsplit : m.width + (s.cfg.flen - m.width) = s.cfg.flen := Nat.add_sub_cancel' hw
  have hlt : (s.readF r).toNat < 2 ^ (m.width + (s.cfg.flen - m.width)) := hsplit.symm ▸ s.readF_lt r
  rw [upperBits, div_two_pow_eq_iff_testBit hlt, hsplit]
  rfl

/-! ### Unboxing, by the rule for the bits above the value -/

theorem State.unbox_of_boxed {s : State} {m : Fmt} (hw : m.width ≤ s.cfg.flen) (hb : s.cfg.nanBox = .boxed)
    {r : RegIdx} (h : ∀ k, m.width ≤ k → k < s.cfg.flen → (s.readF r).getLsbD k = true) :
    s.unbox m r = ftrunc m.width (s.readF r) := by
  simp only [State.unbox, hb, (upperBits_eq_iff hw r).2 h, if_true]
  rfl

theorem State.unbox_of_not_boxed {s : State} {m : Fmt} (hw : m.width ≤ s.cfg.flen)
    (hb : s.cfg.nanBox = .boxed) {r : RegIdx}
    (h : ¬ ∀ k, m.width ≤ k → k < s.cfg.flen → (s.readF r).getLsbD k = true) :
    s.unbox m r = m.canonicalNaN := by
  simp only [State.unbox, hb, mt (upperBits_eq_iff hw r).1 h, if_false]

theorem State.unbox_of_unspecified {s : State} {m : Fmt} (hb : s.cfg.nanBox = .unspecifiedUpper) (r : RegIdx) :
    s.unbox m r = ftrunc m.width (s.readF r) := by
  simp only [State.unbox, hb]
  rfl

/-- A value written boxed reads back: `writeBoxed` gives the register the form that `unbox` accepts. -/
theorem State.unbox_writeBoxed {s : State} {m : Fmt} (hw : m.width ≤ s.cfg.flen) (r : RegIdx) (v : FWord) :
    (s.writeBoxed m r v).unbox m r = ftrunc m.width v := by
  have written : (s.writeBoxed m r v).readF r = ftrunc s.cfg.flen (s.box m v) := State.readF_writeF_same s r _
  obtain ⟨low, upper⟩ := holdsBoxed_box hw (flen_le _) r v written
  rw [← low]
  cases hb : s.cfg.nanBox with
  | boxed => exact State.unbox_of_boxed (s := s.writeBoxed m r v) hw hb (upper hb)
  | unspecifiedUpper => exact State.unbox_of_unspecified (s := s.writeBoxed m r v) hb r

/-- Settles O41, by `unbox` after `writeBoxed` and in each case of R41. -/
theorem narrowValuesAreNanBoxed : Obligations.NarrowValuesAreNanBoxed := by
  unfold Obligations.NarrowValuesAreNanBoxed
  intro s m r v hw
  refine ⟨State.unbox_writeBoxed hw r v, fun hb ⟨k, hwk, hk, hbit⟩ => ?_, fun hb => State.unbox_of_boxed hw hb,
    fun hb => State.unbox_of_unspecified hb r⟩
  refine State.unbox_of_not_boxed hw hb fun all => ?_
  rw [all k hwk hk] at hbit
  cases hbit

end Sys2Proof.Machine
end

section
/-! The proof of O28: which CSRs exist (R33, R32), and the law of CSR instructions (R220) on one of
`CsrExtra`. -/

namespace Sys2Proof.Machine

/-! ### The table of R33 -/

theorem State.csrAt_floatingPoint {s : State} {n : BitVec 12} (h : n ∈ [1#12, 2#12, 3#12]) :
    (s.csrAt n).isSome = true ↔ s.cfg.ext.f = true := by
  simp only [List.mem_cons, List.not_mem_nil, or_false] at h
  obtain rfl | rfl | rfl := h <;>
    rw [State.csrAt_of_standard (by decide)] <;> simp [State.standardCsr]

theorem State.csrAt_upperHalf {s : State} {n : BitVec 12} (h : n ∈ [0xC80#12, 0xC81#12, 0xC82#12]) :
    (s.csrAt n).isSome = true ↔ s.cfg.xlen = .rv32 := by
  simp only [List.mem_cons, List.not_mem_nil, or_false] at h
  obtain rfl | rfl | rfl := h <;>
    rw [State.csrAt_of_standard (by decide)] <;> simp [State.standardCsr]

/-! ### `CsrExtra` -/

theorem State.csrAt_extra_isSome {s : State} {n : BitVec 12} (h : n ∉ standardNumbers) :
    (s.csrAt n).isSome = true ↔ ∃ e ∈ s.cfg.csrExtra, e.number = n := by
  simp [State.csrAt_of_extra h]

theorem State.number_of_csrAt_extra {s : State} {n : BitVec 12} (h : n ∉ standardNumbers) {e : ExtraCsr}
    (he : s.csrAt n = some (.extra e)) : e.number = n := by
  rw [State.csrAt_of_extra h, Option.map_eq_some_iff] at he
  obtain ⟨e', hfind, heq⟩ := he
  cases heq
  simpa using List.find?_some hfind

theorem xtrunc_and (x : Xlen) (a b : Word) : xtrunc x (a &&& b) = xtrunc x a &&& xtrunc x b := by
  cases x
  · simp [xtrunc, BitVec.setWidth_and]
  · rfl

/-- The storage of a CSR lies within its mask. -/
theorem State.extraValue_and_mask (s : State) (e : ExtraCsr) : s.extraValue e &&& e.mask = s.extraValue e := by
  simp [State.extraValue, BitVec.and_assoc]

/-- A written CSR holds the value within its mask and `XLEN`. -/
theorem State.extraValue_csrWrite_same (s : State) (e : ExtraCsr) (v : Word) :
    xtrunc s.cfg.xlen ((s.csrWrite (.extra e) v).extraValue e) = xtrunc s.cfg.xlen (v &&& e.mask) := by
  simp [State.extraValue, State.csrWrite, xtrunc_and, BitVec.and_assoc]

/-- Writing one CSR leaves the storage of the others. -/
theorem State.extraValue_csrWrite_other (s : State) {e e' : ExtraCsr} (h : e'.number ≠ e.number) (v : Word) :
    (s.csrWrite (.extra e) v).extraValue e' = s.extraValue e' := by
  have skipped (p : BitVec 12 × Word) :
      decide ((p.1 != e.number) = true ∧ (p.1 == e'.number) = true) = (p.1 == e'.number) := by
    by_cases hp : p.1 = e'.number <;> simp [hp, h]
  simp only [State.extraValue, State.csrWrite, List.find?_cons, beq_false_of_ne h.symm, List.find?_filter, skipped]

/-- The storage of `CsrExtra` depends on the field alone. -/
theorem State.extraValue_congr {s t : State} (h : t.extraCsrs = s.extraCsrs) (e : ExtraCsr) :
    t.extraValue e = s.extraValue e := by simp [State.extraValue, h]

/-! ### The law of CSR instructions on a CSR of `CsrExtra` -/

section
variable {s : State} {e : ExtraCsr} {n : BitVec 12}

/-- An instruction that changes the storage of `CsrExtra`, writes the old value to `x[rd]` and completes. -/
theorem wroteExtra_of_stored (rd : RegIdx) {old new : Word} (hold : xtrunc s.cfg.xlen old = old)
    (l : List (BitVec 12 × Word))
    (hsame : xtrunc s.cfg.xlen (State.extraValue { s with extraCsrs := l } e) =
      xtrunc s.cfg.xlen (new &&& e.mask))
    (hother : ∀ e' : ExtraCsr, e'.number ≠ e.number →
      State.extraValue { s with extraCsrs := l } e' = s.extraValue e') :
    wroteExtra rd e old new s ((State.writeX { s with extraCsrs := l } rd old).retire 4) := by
  refine ⟨⟨?_, ?_⟩, ?_, fun r hr => ?_, fun r => ?_, ?_, ⟨fun a => ?_, ?_⟩, ?_, ?_, ?_, ?_, ?_, fun e' he => ?_⟩
  · exact State.retire_pc_toNat (by simp) (by simp) 4
  · simp
  · rw [State.readX_retire]
    split
    · rename_i hzero
      rw [hzero, State.readX_zero]
    · rw [State.readX_writeX_same _ (by assumption)]
      exact hold
  · rw [State.readX_retire, State.readX_writeX_other _ hr]
    rfl
  · exact State.readF_congr (by simp) (by simp) r
  · simp
  · simp [State.readByte]
  · simp
  · simp
  · simp
  · simp
  · simp
  · rw [← hsame]
    exact congrArg _ (State.extraValue_congr (by simp) e)
  · rw [← hother e' he]
    exact State.extraValue_congr (by simp) e'

/-- The old value of a CSR of `CsrExtra`, as a CSR instruction reads it. -/
def State.extraOld (s : State) (e : ExtraCsr) : Word := xtrunc s.cfg.xlen (s.extraValue e)

/-- A pure read leaves the storage, which is the old value within its mask. -/
theorem wroteExtra_read (rd : RegIdx) :
    wroteExtra rd e (s.extraOld e) (s.extraOld e) s ((s.writeX rd (s.extraOld e)).retire 4) := by
  refine wroteExtra_of_stored rd (xtrunc_xtrunc _ _) s.extraCsrs ?_ fun _ _ => rfl
  rw [State.extraOld, xtrunc_and, xtrunc_xtrunc, ← xtrunc_and, State.extraValue_and_mask]

theorem wroteExtra_write (rd : RegIdx) (new : Word) :
    wroteExtra rd e (s.extraOld e) new s (((s.csrWrite (.extra e) new).writeX rd (s.extraOld e)).retire 4) :=
  wroteExtra_of_stored rd (xtrunc_xtrunc _ _) _ (s.extraValue_csrWrite_same e new)
    fun _ h => s.extraValue_csrWrite_other h new

/-- CSRRW and CSRRWI: the read they leave out is the one that `x0` would discard. -/
theorem State.csrSwap_extra (hn : s.csrAt n = some (.extra e)) (hro : csrReadOnly n = false) (i : Instr)
    (rd : RegIdx) (v : Word) :
    ∃ t, s.csrSwap i rd n v = .next t ∧ wroteExtra rd e (s.extraOld e) v s t := by
  refine ⟨_, ?_, wroteExtra_write rd v⟩
  by_cases hrd : rd = 0#5
  · simp [State.csrSwap, State.csrLaw, hn, hro, State.csrAccess, hrd, State.writeX_zero]
  · simp [State.csrSwap, State.csrLaw, hn, hro, State.csrAccess, hrd, State.csrRead, State.extraOld]

/-- The forms that set or clear bits: they write where `writes`, and otherwise keep the old value. -/
theorem State.csrLaw_extra (hn : s.csrAt n = some (.extra e)) {writes : Bool}
    (hro : writes = true → csrReadOnly n = false) (i : Instr) (rd : RegIdx) {f : Word → Word}
    (hkeep : writes = false → f (s.extraOld e) = s.extraOld e) :
    ∃ t, s.csrLaw i rd n true writes f = .next t ∧ wroteExtra rd e (s.extraOld e) (f (s.extraOld e)) s t := by
  cases writes with
  | false =>
    rw [hkeep rfl]
    refine ⟨_, ?_, wroteExtra_read rd⟩
    simp [State.csrLaw, hn, State.csrAccess, State.csrRead, State.extraOld]
  | true =>
    refine ⟨_, ?_, wroteExtra_write rd _⟩
    simp [State.csrLaw, hn, hro rfl, State.csrAccess, State.csrRead, State.extraOld]

/-- A zero field asks for no write, any other for a CSR that is not read-only (R220). -/
theorem State.csrSet_extra (hn : s.csrAt n = some (.extra e)) {field : BitVec 5}
    (hro : field ≠ 0#5 → csrReadOnly n = false) (i : Instr) (rd : RegIdx) {v : Word}
    (hv : field = 0#5 → v = 0#64) :
    ∃ t, s.csrSet i rd n field v = .next t ∧ wroteExtra rd e (s.extraOld e) (s.extraOld e ||| v) s t :=
  State.csrLaw_extra hn (by simpa using hro) i rd fun h => by rw [hv (by simpa using h), BitVec.or_zero]

theorem State.csrClear_extra (hn : s.csrAt n = some (.extra e)) {field : BitVec 5}
    (hro : field ≠ 0#5 → csrReadOnly n = false) (i : Instr) (rd : RegIdx) {v : Word}
    (hv : field = 0#5 → v = 0#64) :
    ∃ t, s.csrClear i rd n field v = .next t ∧ wroteExtra rd e (s.extraOld e) (s.extraOld e &&& ~~~v) s t :=
  State.csrLaw_extra hn (by simpa using hro) i rd fun h => by
    rw [hv (by simpa using h)]
    exact BitVec.and_allOnes

/-- The same with a zero field, whether the CSR is read-only or not: a pure read. -/
theorem State.csrSet_extra_read (hn : s.csrAt n = some (.extra e)) (i : Instr) (rd : RegIdx) {v : Word}
    (hv : v = 0#64) :
    ∃ t, s.csrSet i rd n 0#5 v = .next t ∧ wroteExtra rd e (s.extraOld e) (s.extraOld e) s t := by
  obtain ⟨t, hnext, hwrote⟩ := State.csrSet_extra hn (fun h => absurd rfl h) i rd fun _ => hv
  have kept : s.extraOld e ||| v = s.extraOld e := by rw [hv, BitVec.or_zero]
  rw [kept] at hwrote
  exact ⟨t, hnext, hwrote⟩

theorem State.csrClear_extra_read (hn : s.csrAt n = some (.extra e)) (i : Instr) (rd : RegIdx) {v : Word}
    (hv : v = 0#64) :
    ∃ t, s.csrClear i rd n 0#5 v = .next t ∧ wroteExtra rd e (s.extraOld e) (s.extraOld e) s t := by
  obtain ⟨t, hnext, hwrote⟩ := State.csrClear_extra hn (fun h => absurd rfl h) i rd fun _ => hv
  have kept : s.extraOld e &&& ~~~v = s.extraOld e := by subst hv; exact BitVec.and_allOnes
  rw [kept] at hwrote
  exact ⟨t, hnext, hwrote⟩

end

/-- Settles O28: the table by its rows, and the law of CSR instructions on the storage of `CsrExtra`. -/
theorem csrsExistAsTheTableSays : Obligations.CsrsExistAsTheTableSays := by
  unfold Obligations.CsrsExistAsTheTableSays
  intro s
  refine ⟨fun n => State.csrAt_floatingPoint, State.csrAt_of_standard (by decide),
    State.csrAt_of_standard (by decide), s.csrAt_instret, fun n => State.csrAt_upperHalf, fun n hn => ?_⟩
  refine ⟨State.csrAt_extra_isSome hn, fun e rd rs1 zimm he => ?_⟩
  have zero_of_rs1 : rs1 = 0#5 → s.readX rs1 = 0#64 := fun h => h ▸ s.readX_zero
  have zero_of_zimm : zimm = 0#5 → zimm.setWidth 64 = 0#64 := fun h => h ▸ rfl
  refine ⟨State.number_of_csrAt_extra hn he, State.csrSet_extra_read he _ rd s.readX_zero,
    State.csrClear_extra_read he _ rd s.readX_zero, State.csrSet_extra_read he _ rd rfl,
    State.csrClear_extra_read he _ rd rfl, fun hrw => ?_⟩
  have writable : csrReadOnly n = false := beq_false_of_ne hrw
  exact ⟨State.csrSwap_extra he writable _ rd _,
    State.csrSet_extra he (fun _ => writable) _ rd zero_of_rs1,
    State.csrClear_extra he (fun _ => writable) _ rd zero_of_rs1,
    State.csrSwap_extra he writable _ rd _,
    State.csrSet_extra he (fun _ => writable) _ rd zero_of_zimm,
    State.csrClear_extra he (fun _ => writable) _ rd zero_of_zimm⟩

end Sys2Proof.Machine
end

section
/-! The proof of O48: rounding `a / P` to an integer in a mode, over the natural numbers, then in the
unit of the last place as a rational. -/

namespace Sys2Proof.Machine

/-! ### Rounding a quotient -/

/-- Whether a mode rounds `q` and a remainder `r` of `P` up to `q + 1` (R38). -/
def roundsUp (mode : Rounding) (neg : Bool) (q r P : Nat) : Bool :=
  match mode with
  | .rne => decide (2 * r > P) || (decide (2 * r = P) && q % 2 == 1)
  | .rtz => false
  | .rdn => neg && r != 0
  | .rup => !neg && r != 0
  | .rmm => decide (2 * r ≥ P)

theorem roundShift_eq (mode : Rounding) (neg : Bool) (mant k : Nat) :
    roundShift mode neg mant k =
      (if roundsUp mode neg (mant / 2 ^ k) (mant % 2 ^ k) (2 ^ k) then mant / 2 ^ k + 1 else mant / 2 ^ k,
        mant % 2 ^ k != 0) := by
  cases mode <;> rfl

/-- `n` is one of the two integers about `a / P`. -/
def Close (n a P : Nat) : Prop := n * P < a + P ∧ a < n * P + P

/-- `n` is no further than a half from `a / P`. -/
def Nearest (n a P : Nat) : Prop := 2 * (n * P) ≤ 2 * a + P ∧ 2 * a ≤ 2 * (n * P) + P

/-- `n` is just a half from `a / P`. -/
def Tie (n a P : Nat) : Prop := 2 * (n * P) = 2 * a + P ∨ 2 * a = 2 * (n * P) + P

/-- `n` is on the side of `a / P` that the mode names, the value negated if `neg` (R38). -/
def FollowsMode (mode : Rounding) (neg : Bool) (n a P : Nat) : Prop :=
  match mode with
  | .rne => Nearest n a P ∧ (Tie n a P → n % 2 = 0)
  | .rmm => Nearest n a P ∧ (Tie n a P → a < n * P)
  | .rtz => n * P ≤ a
  | .rdn => if neg then a ≤ n * P else n * P ≤ a
  | .rup => if neg then n * P ≤ a else a ≤ n * P

/-- No mode rounds an exact quotient up. -/
theorem pos_of_roundsUp {mode : Rounding} {neg : Bool} {q r P : Nat} (hr : r < P)
    (h : roundsUp mode neg q r P = true) : 0 < r := by
  refine Nat.pos_of_ne_zero ?_
  rintro rfl
  cases mode with
  | rne | rmm =>
    simp only [roundsUp, Bool.or_eq_true, Bool.and_eq_true, decide_eq_true_eq] at h
    omega
  | rtz | rdn | rup => simp [roundsUp] at h

theorem close_roundsUp (mode : Rounding) (neg : Bool) {q r P : Nat} (hr : r < P) :
    Close (if roundsUp mode neg q r P then q + 1 else q) (q * P + r) P := by
  split
  · next hup =>
    have := pos_of_roundsUp hr hup
    constructor <;> rw [Nat.succ_mul] <;> omega
  · constructor <;> omega

theorem followsMode_roundsUp (mode : Rounding) (neg : Bool) {q r P : Nat} (hr : r < P) :
    FollowsMode mode neg (if roundsUp mode neg q r P then q + 1 else q) (q * P + r) P := by
  have hmul : (q + 1) * P = q * P + P := Nat.succ_mul q P
  cases mode with
  | rne =>
    simp only [roundsUp, FollowsMode, Nearest, Tie, Bool.or_eq_true, Bool.and_eq_true, decide_eq_true_eq,
      beq_iff_eq]
    split <;> omega
  | rmm =>
    simp only [roundsUp, FollowsMode, Nearest, Tie, decide_eq_true_eq]
    split <;> omega
  | rtz => exact Nat.le_add_right _ _
  | rdn | rup =>
    by_cases hzero : r = 0
    · simp [roundsUp, FollowsMode, hzero]
    · cases neg <;> simp [roundsUp, FollowsMode, hzero, hmul, hr.le]

/-- What rounding `a / P` to `r.1` in a mode means, `r.2` saying whether it is inexact. -/
structure RoundsQuotient (mode : Rounding) (neg : Bool) (a P : Nat) (r : Nat × Bool) : Prop where
  exact_iff : r.2 = false ↔ r.1 * P = a
  close : Close r.1 a P
  follows : FollowsMode mode neg r.1 a P

theorem roundShift_rounds (mode : Rounding) (neg : Bool) (mant k : Nat) :
    RoundsQuotient mode neg mant (2 ^ k) (roundShift mode neg mant k) := by
  have hr : mant % 2 ^ k < 2 ^ k := Nat.mod_lt _ (Nat.two_pow_pos k)
  have hsplit : mant / 2 ^ k * 2 ^ k + mant % 2 ^ k = mant := Nat.div_add_mod' mant (2 ^ k)
  have hclose := close_roundsUp mode neg (q := mant / 2 ^ k) hr
  have hfollows := followsMode_roundsUp mode neg (q := mant / 2 ^ k) hr
  rw [hsplit] at hclose hfollows
  rw [roundShift_eq]
  refine ⟨?_, hclose, hfollows⟩
  rw [bne_eq_false_iff_eq]
  split
  · next hup =>
    have := pos_of_roundsUp hr hup
    rw [Nat.succ_mul]
    omega
  · show mant % 2 ^ k = 0 ↔ mant / 2 ^ k * 2 ^ k = mant
    omega

/-- A value that needs no rounding. -/
theorem rounds_self (mode : Rounding) (neg : Bool) (a : Nat) : RoundsQuotient mode neg a 1 (a, false) := by
  refine ⟨by simp, by simp [Close], ?_⟩
  cases mode <;> simp [FollowsMode, Nearest, Tie]

/-! ### The same in units of the last place -/

section
variable {mode : Rounding} {neg : Bool} {n a P : Nat} {u : Rat}

/-- The sign of a value as a factor. -/
def signFactor (neg : Bool) : Rat := if neg then -1 else 1

theorem abs_signFactor (neg : Bool) : |signFactor neg| = 1 := by cases neg <;> simp [signFactor]

theorem abs_signFactor_mul (neg : Bool) {v : Rat} (hv : 0 ≤ v) : |signFactor neg * v| = v := by
  rw [abs_mul, abs_signFactor, one_mul, abs_of_nonneg hv]

theorem signFactor_mul_le (neg : Bool) {v w : Rat} :
    signFactor neg * v ≤ signFactor neg * w ↔ if neg then w ≤ v else v ≤ w := by
  cases neg <;> simp [signFactor]

theorem cast_mul_le (hu : 0 < u) {j k : Nat} : (j : Rat) * u ≤ k * u ↔ j ≤ k := by
  rw [mul_le_mul_iff_left₀ hu, Nat.cast_le]

/-- How far `n` last places are from `a` units, a last place being `P` units. -/
theorem error_eq (hu : 0 < u) (neg : Bool) :
    |signFactor neg * n * (P * u) - signFactor neg * (a * u)| = |(n * P : Rat) - a| * u := by
  rw [show signFactor neg * n * (P * u) - signFactor neg * (a * u) = signFactor neg * ((n * P - a) * u) by ring,
    abs_mul, abs_signFactor, one_mul, abs_mul, abs_of_pos hu]

theorem Close.dist_lt (h : Close n a P) : |(n * P : Rat) - a| < P := by
  obtain ⟨above, below⟩ := h
  have above : (n * P : Rat) < a + P := by exact_mod_cast above
  have below : (a : Rat) < n * P + P := by exact_mod_cast below
  exact abs_lt.2 ⟨by linarith, by linarith⟩

theorem Nearest.dist_le (h : Nearest n a P) : |(n * P : Rat) - a| ≤ P / 2 := by
  obtain ⟨above, below⟩ := h
  have above : 2 * (n * P : Rat) ≤ 2 * a + P := by exact_mod_cast above
  have below : 2 * (a : Rat) ≤ 2 * (n * P) + P := by exact_mod_cast below
  exact abs_le.2 ⟨by linarith, by linarith⟩

theorem tie_of_abs_eq (h : |(n * P : Rat) - a| = P / 2) : Tie n a P := by
  rcases eq_or_eq_neg_of_abs_eq h with h | h
  · left
    have : 2 * (n * P : Rat) = 2 * a + P := by linarith
    exact_mod_cast this
  · right
    have : 2 * (a : Rat) = 2 * (n * P) + P := by linarith
    exact_mod_cast this

/-- A rounded quotient in units `u`: what R38 says of each mode, for the signed rationals. -/
theorem RoundsQuotient.inUnits {r : Nat × Bool} (h : RoundsQuotient mode neg a P r) (hu : 0 < u)
    {exact ulp : Rat} (hexact : exact = signFactor neg * (a * u)) (hulp : ulp = P * u) :
    let rounded : Rat := signFactor neg * r.1 * ulp
    (r.2 = false ↔ rounded = exact) ∧ |rounded - exact| < ulp ∧
      (mode = .rne → |rounded - exact| ≤ ulp / 2 ∧ (|rounded - exact| = ulp / 2 → r.1 % 2 = 0)) ∧
      (mode = .rmm → |rounded - exact| ≤ ulp / 2 ∧ (|rounded - exact| = ulp / 2 → |exact| < |rounded|)) ∧
      (mode = .rtz → |rounded| ≤ |exact|) ∧ (mode = .rdn → rounded ≤ exact) ∧
      (mode = .rup → exact ≤ rounded) := by
  subst hexact hulp
  obtain ⟨n, inexact⟩ := r
  obtain ⟨exact_iff, close, follows⟩ := h
  have half_eq : (P : Rat) * u / 2 = P / 2 * u := by ring
  have nearest_le (hn : Nearest n a P) : |(n * P : Rat) - a| * u ≤ P / 2 * u :=
    mul_le_mul_of_nonneg_right hn.dist_le hu.le
  have tie (he : |(n * P : Rat) - a| * u = P / 2 * u) : Tie n a P :=
    tie_of_abs_eq (mul_right_cancel₀ hu.ne' he)
  intro rounded
  have rounded_eq : rounded = signFactor neg * ((n * P : Nat) * u) := by
    simp only [rounded]
    push_cast
    ring
  have abs_exact : |signFactor neg * (a * u)| = a * u := abs_signFactor_mul neg (by positivity)
  have abs_rounded : |rounded| = (n * P : Nat) * u := by
    rw [rounded_eq, abs_signFactor_mul neg (by positivity)]
  have error : |rounded - signFactor neg * (a * u)| = |(n * P : Rat) - a| * u := error_eq hu neg
  rw [error, half_eq]
  refine ⟨?_, mul_lt_mul_of_pos_right close.dist_lt hu, ?_, ?_, ?_, ?_, ?_⟩
  · have sign_ne : signFactor neg ≠ 0 := abs_ne_zero.1 (by rw [abs_signFactor]; exact one_ne_zero)
    rw [exact_iff, rounded_eq, mul_right_inj' sign_ne, mul_left_inj' hu.ne', Nat.cast_inj]
  · rintro rfl
    exact ⟨nearest_le follows.1, fun he => follows.2 (tie he)⟩
  · rintro rfl
    refine ⟨nearest_le follows.1, fun he => ?_⟩
    rw [abs_exact, abs_rounded]
    exact mul_lt_mul_of_pos_right (Nat.cast_lt.2 (follows.2 (tie he))) hu
  · rintro rfl
    rw [abs_exact, abs_rounded]
    exact (cast_mul_le hu).2 follows
  · rintro rfl
    rw [rounded_eq, signFactor_mul_le, cast_mul_le hu, cast_mul_le hu]
    exact follows
  · rintro rfl
    rw [rounded_eq, signFactor_mul_le, cast_mul_le hu, cast_mul_le hu]
    exact follows

end

/-- A power of two by a lower one. -/
theorem two_zpow_eq {j k : Int} (h : j ≤ k) : (2 : Rat) ^ k = ((2 ^ (k - j).toNat : Nat) : Rat) * 2 ^ j := by
  have hk : k = ((k - j).toNat : Int) + j := by omega
  conv_lhs => rw [hk, zpow_add₀ two_ne_zero, zpow_natCast]
  norm_num

/-- Settles O48. Where the last place is no higher than the value's own, the value is exact in it; else
`roundShift` rounds a quotient in units of the value's own last place. -/
theorem roundingModesRoundAsNamed : Obligations.RoundingModesRoundAsNamed := by
  unfold Obligations.RoundingModesRoundAsNamed
  intro mode neg mant exp lsb
  have unit_pos (k : Int) : (0 : Rat) < 2 ^ k := zpow_pos two_pos k
  unfold roundAt
  split
  · next hle =>
    refine (rounds_self mode neg _).inUnits (unit_pos lsb) ?_ (by simp)
    rw [mul_assoc, two_zpow_eq hle, Nat.cast_mul, mul_assoc]
    rfl
  · next hlt =>
    exact (roundShift_rounds mode neg mant _).inUnits (unit_pos exp) (mul_assoc _ _ _) (two_zpow_eq (by omega))

end Sys2Proof.Machine
end

section
/-! The proofs of O20 and O22: a load or store of `n` bytes checks alignment, then access (R64, R66),
whatever it goes on to do. -/

namespace Sys2Proof.Machine

section
variable {s : State} {a : Word} {n : Nat}

/-! ### The two checks -/

/-- An aligned access traps under neither mode, any access none under `MISALIGNED = split` (R64). -/
theorem State.not_trapsMisaligned (ha : xtrunc s.cfg.xlen a = a)
    (h : a.toNat % n = 0 ∨ s.cfg.misaligned = .split) : ¬ s.trapsMisaligned a n = true := by
  rw [State.trapsMisaligned_iff s ha]
  rintro ⟨htrap, hunaligned⟩
  rcases h with haligned | hsplit
  · exact hunaligned haligned
  · rw [hsplit] at htrap
    cases htrap

theorem State.not_allowsAll {acc : Access} (h : ∃ k, k < n ∧ s.allows acc (byteAddr s.cfg.xlen a k) = false) :
    ¬ s.allowsAll acc a n = true := by
  obtain ⟨k, hk, hdenied⟩ := h
  intro hall
  rw [(s.allowsAll_iff acc a n).1 hall k hk] at hdenied
  cases hdenied

/-! ### Loads and stores that trap -/

/-- How an access of `n` bytes at `a` ends where a check fails: with `unaligned` where it traps for its
alignment, else with `denied` where a byte is absent or not permitted (R64, R66). -/
def State.TrapsInOrder (s : State) (acc : Access) (unaligned denied : Fault) (a : Word) (n : Nat) (r : Res) : Prop :=
  (s.cfg.misaligned = .trap → a.toNat % n ≠ 0 → r = .fault unaligned) ∧
    ((a.toNat % n = 0 ∨ s.cfg.misaligned = .split) →
      (∃ k, k < n ∧ s.allows acc (byteAddr s.cfg.xlen a k) = false) → r = .fault denied)

/-- Alignment tested before access is what both `State.load` and `State.store` open with. -/
theorem State.trapsInOrder_checks (ha : xtrunc s.cfg.xlen a = a) (acc : Access) (unaligned denied : Fault) (n : Nat)
    (r : Res) :
    s.TrapsInOrder acc unaligned denied a n
      (if s.trapsMisaligned a n then raise unaligned else if s.allowsAll acc a n then r else raise denied) := by
  constructor
  · intro htrap hunaligned
    exact if_pos ((State.trapsMisaligned_iff s ha n).2 ⟨htrap, hunaligned⟩)
  · intro hpasses hdenied
    rw [if_neg (State.not_trapsMisaligned ha hpasses), if_neg (State.not_allowsAll hdenied)]
    rfl

theorem State.load_trapsInOrder (ha : xtrunc s.cfg.xlen a = a) (n : Nat) (k : Nat → Res) :
    s.TrapsInOrder .read (.loadAddressMisaligned a) (.loadAccessFault a) a n (s.load a n k) :=
  State.trapsInOrder_checks ha _ _ _ n (k (s.readBytes a n))

theorem State.store_trapsInOrder (ha : xtrunc s.cfg.xlen a = a) (n v : Nat) (k : State → Res) :
    s.TrapsInOrder .write (.storeAddressMisaligned a) (.storeAccessFault a) a n (s.store a n v k) :=
  State.trapsInOrder_checks ha _ _ _ n (k (s.writeBytes a v n))

/-! ### The shapes of the load and store instructions -/

theorem State.loadSigned_trapsInOrder (ha : xtrunc s.cfg.xlen a = a) (len : Nat) (rd : RegIdx) (n : Nat) :
    s.TrapsInOrder .read (.loadAddressMisaligned a) (.loadAccessFault a) a n (s.loadSigned len rd a n) :=
  State.load_trapsInOrder ha n _

theorem State.loadUnsigned_trapsInOrder (ha : xtrunc s.cfg.xlen a = a) (len : Nat) (rd : RegIdx) (n : Nat) :
    s.TrapsInOrder .read (.loadAddressMisaligned a) (.loadAccessFault a) a n (s.loadUnsigned len rd a n) :=
  State.load_trapsInOrder ha n _

theorem State.loadF_trapsInOrder (ha : xtrunc s.cfg.xlen a = a) (len : Nat) (m : Fmt) (rd : RegIdx) :
    s.TrapsInOrder .read (.loadAddressMisaligned a) (.loadAccessFault a) a (m.width / 8) (s.loadF len m rd a) :=
  State.load_trapsInOrder ha _ _

theorem State.storeX_trapsInOrder (ha : xtrunc s.cfg.xlen a = a) (len : Nat) (rs2 : RegIdx) (n : Nat) :
    s.TrapsInOrder .write (.storeAddressMisaligned a) (.storeAccessFault a) a n (s.storeX len a rs2 n) :=
  State.store_trapsInOrder ha n _ _

theorem State.storeF_trapsInOrder (ha : xtrunc s.cfg.xlen a = a) (len : Nat) (m : Fmt) (rs2 : RegIdx) :
    s.TrapsInOrder .write (.storeAddressMisaligned a) (.storeAccessFault a) a (m.width / 8)
      (s.storeF len m a rs2) :=
  State.store_trapsInOrder ha _ _ _

end

/-- Settles O20: each of the ten is a load of its width at the effective address. -/
theorem loadsTrapOnMisalignmentThenOnAccess : Obligations.LoadsTrapOnMisalignmentThenOnAccess := by
  unfold Obligations.LoadsTrapOnMisalignmentThenOnAccess
  intro s rd rs1 imm
  have signed := State.loadSigned_trapsInOrder (s.ea_xtrunc rs1 imm) 4 rd
  have unsigned := State.loadUnsigned_trapsInOrder (s.ea_xtrunc rs1 imm) 4 rd
  have float (m : Fmt) := State.loadF_trapsInOrder (s.ea_xtrunc rs1 imm) 4 m rd
  exact ⟨signed 1, signed 2, signed 4, signed 8, unsigned 1, unsigned 2, unsigned 4, float .s, float .d, float .q⟩

/-- Settles O22: each of the seven is a store of its width at the effective address. -/
theorem storesTrapOnMisalignmentThenOnAccess : Obligations.StoresTrapOnMisalignmentThenOnAccess := by
  unfold Obligations.StoresTrapOnMisalignmentThenOnAccess
  intro s rs1 rs2 imm
  have integer := State.storeX_trapsInOrder (s.ea_xtrunc rs1 imm) 4 rs2
  have float (m : Fmt) := State.storeF_trapsInOrder (s.ea_xtrunc rs1 imm) 4 m rs2
  exact ⟨integer 1, integer 2, integer 4, integer 8, float .s, float .d, float .q⟩

end Sys2Proof.Machine
end

section
/-! The proofs of O18 and O23: the number several bytes of memory stand for, digit by digit to the base
2^8 (R61). -/

namespace Sys2Proof.Machine

/-! ### The bytes of a value read -/

theorem State.readBytes_lt (s : State) (a : Word) (n : Nat) : s.readBytes a n < 2 ^ (8 * n) := by
  induction n with
  | zero => exact Nat.one_pos
  | succ n ih =>
    have top := (s.readByte (byteAddr s.cfg.xlen a n)).isLt
    rw [State.readBytes, Nat.mul_succ, pow_add]
    nlinarith

/-- Byte `k` of the value of `n` bytes is the byte at `a + k` (R61). -/
theorem State.readBytes_byte (s : State) (a : Word) {n k : Nat} (hk : k < n) :
    s.readBytes a n / 2 ^ (8 * k) % 2 ^ 8 = (s.readByte (byteAddr s.cfg.xlen a k)).toNat := by
  induction n with
  | zero => omega
  | succ n ih =>
    rw [State.readBytes]
    rcases Nat.lt_succ_iff_lt_or_eq.1 hk with hlt | rfl
    · have above : 2 ^ (8 * n) = 2 ^ (8 * k) * (2 ^ 8 * 2 ^ (8 * (n - k - 1))) := by
        rw [← pow_add, ← pow_add]
        congr 1
        omega
      rw [above, Nat.mul_left_comm, Nat.add_mul_div_left _ _ (Nat.two_pow_pos _), Nat.mul_left_comm,
        Nat.add_mul_mod_self_left, ih hlt]
    · rw [Nat.add_mul_div_right _ _ (Nat.two_pow_pos _), Nat.div_eq_of_lt (s.readBytes_lt a k), Nat.zero_add]
      exact Nat.mod_eq_of_lt (BitVec.isLt _)

/-- Where the bytes at `a` are those of `v`, what is read is `v` modulo their width. -/
theorem State.readBytes_eq_mod {s : State} {a : Word} {v n : Nat}
    (h : ∀ k, k < n → s.readByte (byteAddr s.cfg.xlen a k) = BitVec.ofNat 8 (v / 2 ^ (8 * k))) :
    s.readBytes a n = v % 2 ^ (8 * n) := by
  induction n with
  | zero => exact (Nat.mod_one v).symm
  | succ n ih =>
    rw [State.readBytes, ih fun k hk => h k (Nat.lt_succ_of_lt hk), h n (Nat.lt_succ_self n),
      BitVec.toNat_ofNat, Nat.mul_succ, pow_add, Nat.mod_mul, Nat.mul_comm (2 ^ (8 * n))]

/-! ### Reading and writing -/

/-- Settles O18: R61's two halves are `State.readBytes_byte` and the read of a byte just written. -/
theorem memoryIsLittleEndian : Obligations.MemoryIsLittleEndian := by
  unfold Obligations.MemoryIsLittleEndian
  intro s a v n k hk at_
  have at_eq : at_ = byteAddr s.cfg.xlen a k := (byteAddr_eq s.cfg.xlen a k).symm
  rw [at_eq]
  refine ⟨s.readBytes_byte a hk, s.readBytes_lt a n, fun hwf hn => ?_⟩
  rw [State.readByte_writeBytes_same hwf a v (by omega) hk, BitVec.toNat_ofNat]

/-- Settles O23: each byte written reads back, so the value read is the one written, cut to its width. -/
theorem loadAfterStoreGivesTheStoredBytes : Obligations.LoadAfterStoreGivesTheStoredBytes := by
  unfold Obligations.LoadAfterStoreGivesTheStoredBytes
  rintro s _ a v n hwf hn rfl
  refine ⟨State.readBytes_eq_mod fun k hk => ?_, State.wf_writeBytes hwf a v n⟩
  rw [State.writeBytes_cfg]
  exact State.readByte_writeBytes_same hwf a v (by omega) hk

end Sys2Proof.Machine
end

section
/-! The proof of O8: what a parcel that cannot be fetched answers, beside `State.fetchParcel_of_fresh`, and
that the first parcel alone says whether there is a second (R77). -/

namespace Sys2Proof.Machine

section
variable {s : State}

/-! ### One parcel -/

theorem State.fetchParcel_of_denied {off : Nat}
    (h : ¬ (s.allows .execute (byteAddr s.cfg.xlen s.pc off) = true ∧
      s.allows .execute (byteAddr s.cfg.xlen s.pc (off + 1)) = true)) (k : BitVec 16 → Res) :
    s.fetchParcel off k = .fault (.instructionAccessFault s.pc) :=
  if_neg fun hboth => h ((Bool.and_eq_true _ _).mp hboth)

theorem State.fetchParcel_of_stale {off : Nat}
    (hx0 : s.allows .execute (byteAddr s.cfg.xlen s.pc off) = true)
    (hx1 : s.allows .execute (byteAddr s.cfg.xlen s.pc (off + 1)) = true)
    (h : byteAddr s.cfg.xlen s.pc off ∈ s.stale ∨ byteAddr s.cfg.xlen s.pc (off + 1) ∈ s.stale)
    (k : BitVec 16 → Res) : s.fetchParcel off k = .refused .staleFetch := by
  simp [State.fetchParcel, hx0, hx1, h]

/-! ### The first parcel and what it asks for -/

/-- The two lowest bits of a parcel are those of its first byte. -/
theorem low_append_byte (b1 b0 : Byte) : (b1 ++ b0).extractLsb' 0 2 = b0.extractLsb' 0 2 := by
  apply BitVec.eq_of_getLsbD_eq
  intro j hj
  have in_low_byte : j < 8 := by omega
  rw [BitVec.getLsbD_extractLsb', BitVec.getLsbD_extractLsb', Nat.zero_add, BitVec.getLsbD_append, if_pos in_low_byte]

/-- A fetched first parcel is the instruction, or the low half of one, as its first byte says (R90). -/
theorem State.fetch_of_fresh
    (hx0 : s.allows .execute (byteAddr s.cfg.xlen s.pc 0) = true)
    (hx1 : s.allows .execute (byteAddr s.cfg.xlen s.pc 1) = true)
    (hf0 : byteAddr s.cfg.xlen s.pc 0 ∉ s.stale) (hf1 : byteAddr s.cfg.xlen s.pc 1 ∉ s.stale)
    (k : Encoded → Res) :
    let p0 := s.readByte (byteAddr s.cfg.xlen s.pc 1) ++ s.readByte (byteAddr s.cfg.xlen s.pc 0)
    s.fetch k =
      if (s.readByte (byteAddr s.cfg.xlen s.pc 0)).extractLsb' 0 2 = 0b11#2 then
        s.fetchParcel 2 fun p1 => k (.word (p1 ++ p0))
      else k (.half p0) := by
  rw [State.fetch, State.fetchParcel_of_fresh hx0 hx1 hf0 hf1, low_append_byte]

/-! ### What decodes to nothing -/

/-- The word an error of the decoder reports is the one that was decoded, zero-extended (R500). -/
theorem word_of_decode_error {c : Config} {e : Encoded} {err : DecodeError} (h : decode c e = .error err) :
    err.word = e.zext := by
  have checked {i : Instr} {w : BitVec 32}
      (hi : (if i.wellFormed c then Except.ok i else .error (.notInConfiguration w)) = .error err) :
      err.word = w := by
    split at hi
    · cases hi
    · cases hi
      rfl
  cases e with
  | half p =>
    simp only [decode, decode16] at h
    split at h
    · cases h
      rfl
    · exact checked h
  | word w =>
    simp only [decode, decode32] at h
    split at h
    · cases h
      rfl
    · split at h
      · cases h
        rfl
      · exact checked h

/-- Where the fetch gives an encoding that does not decode, the step is illegal (R504 cause 1). -/
theorem step_of_fetch_error {e : Encoded} {err : DecodeError} (hfetch : ∀ k : Encoded → Res, s.fetch k = k e)
    (hdecode : decode s.cfg e = .error err) : step s = .fault (.illegalInstruction e.zext) := by
  rw [step, State.stepWith, hfetch, hdecode, ← word_of_decode_error hdecode]
  rfl

end

/-- Settles O8, in the order R77 checks: the first parcel, its lowest bits, the second parcel. -/
theorem fetchChecksParcelByParcel : Obligations.FetchChecksParcelByParcel := by
  unfold Obligations.FetchChecksParcelByParcel
  intro s ok stale long
  refine ⟨fun hdenied => ?_, fun hx0 hx1 hstale => ?_, fun hx0 hx1 hf0 hf1 hlong hdenied => ?_,
    fun hx0 hx1 hf0 hf1 hlong hx2 hx3 hstale => ?_, fun hx0 hx1 hf0 hf1 hshort => ?_⟩
  · rw [step, State.stepWith, State.fetch, State.fetchParcel_of_denied hdenied]
  · rw [step, State.stepWith, State.fetch, State.fetchParcel_of_stale hx0 hx1 hstale]
  · rw [step, State.stepWith, State.fetch_of_fresh hx0 hx1 hf0 hf1, if_pos hlong,
      State.fetchParcel_of_denied hdenied]
  · rw [step, State.stepWith, State.fetch_of_fresh hx0 hx1 hf0 hf1, if_pos hlong,
      State.fetchParcel_of_stale hx2 hx3 hstale]
  · intro p0
    have hfetch (k : Encoded → Res) : s.fetch k = k (.half p0) :=
      (State.fetch_of_fresh hx0 hx1 hf0 hf1 k).trans (if_neg hshort)
    cases hdecode : decode s.cfg (.half p0) with
    | ok i => exact step_of_fetch hfetch hdecode
    | error err => exact step_of_fetch_error hfetch hdecode

end Sys2Proof.Machine
end

section
/-! Fields of a word that is a bitwise or of placed fields, for the encodings' round trips (O4, O5): what
reading a field of such a word gives, and that the fields of a word, placed again, are the word. -/

namespace Sys2Proof

/-! ### Fields of a bitwise or of placed fields -/

section
variable {W n m k j : Nat}

/-- A field read within a placed one is that part of it. -/
@[simp] theorem extract_place_inside (v : BitVec n) (hk : k ≤ j) (hn : j + m ≤ k + n) (hW : k + n ≤ W) :
    (place W k v).extractLsb' j m = v.extractLsb' (j - k) m := by
  apply BitVec.eq_of_getLsbD_eq
  intro b hb
  have hw : j + b < W := by omega
  have hkb : ¬ j + b < k := by omega
  have hsub : j + b - k = j - k + b := by omega
  simp only [BitVec.getLsbD_extractLsb', getLsbD_place, hb, hw, hkb, hsub, decide_true, decide_false,
    Bool.not_false, Bool.true_and]

/-- A field read below or above a placed one is zero. -/
@[simp] theorem extract_place_outside (v : BitVec n) (h : j + m ≤ k ∨ k + n ≤ j) :
    (place W k v).extractLsb' j m = 0#m := by
  apply BitVec.eq_of_getLsbD_eq
  intro b hb
  rcases h with below | above
  · have hk : j + b < k := by omega
    simp [hk]
  · have hn : v.getLsbD (j + b - k) = false := BitVec.getLsbD_of_ge _ _ (by omega)
    simp [hn]

/-- Two neighbouring fields of a word, each placed where it stands in some `W`-bit string, are one. -/
@[simp] theorem place_or_place {w : Nat} (v : BitVec w) {k' : Nat} (hk : k' = j + m) {i' i : Nat} (hi : i' = i + m) :
    place W k' (v.extractLsb' i' n) ||| place W j (v.extractLsb' i m) = place W j (v.extractLsb' i (m + n)) := by
  subst hk hi
  apply BitVec.eq_of_getLsbD_eq
  intro b hb
  simp only [BitVec.getLsbD_or, getLsbD_place, BitVec.getLsbD_extractLsb']
  grind

@[simp] theorem place_whole (v : BitVec W) : place W 0 v = v := by simp [place]

/-- An immediate whose `k` low bits are zero is what stands above them. -/
theorem place_of_lowZero {imm : BitVec W} (h : lowZero k imm = true) (hW : m + k = W) :
    place W k (imm.extractLsb' k m) = imm := by
  have low : imm.extractLsb' 0 k = 0#k := by simpa [lowZero] using h
  obtain rfl : W = k + m := by omega
  calc place (k + m) k (imm.extractLsb' k m)
    _ = place (k + m) k (imm.extractLsb' k m) ||| place (k + m) 0 (imm.extractLsb' 0 k) := by simp [low, place]
    _ = place (k + m) 0 (imm.extractLsb' 0 (k + m)) :=
      place_or_place imm (Nat.zero_add k).symm (Nat.zero_add k).symm
    _ = imm := by simp

end

/-! ### The default arms of the decoder -/

theorem eq_seven_of_ne {f : BitVec 3} (h0 : f ≠ 0#3) (h1 : f ≠ 1#3) (h2 : f ≠ 2#3) (h3 : f ≠ 3#3)
    (h4 : f ≠ 4#3) (h5 : f ≠ 5#3) (h6 : f ≠ 6#3) : f = 7#3 := by bv_omega

theorem eq_three_of_ne {f : BitVec 2} (h0 : f ≠ 0#2) (h1 : f ≠ 1#2) (h2 : f ≠ 2#2) : f = 3#2 := by bv_omega

end Sys2Proof
end

section
/-! The 32-bit formats (R92 to R98), both ways: a word of a format has the fields it was made of, and a
word is the format of its own fields. -/

namespace Sys2Proof

/-! ### The fields of a word of each format -/

section
variable (rd rs1 rs2 : RegIdx) (f : BitVec 3) (op : BitVec 7)

@[simp] theorem fields_mkR (f7 : BitVec 7) :
    let w := mkR f7 rs2 rs1 f rd op
    opcodeOf w = op ∧ rdOf w = rd ∧ funct3Of w = f ∧ rs1Of w = rs1 ∧ rs2Of w = rs2 ∧ funct7Of w = f7 := by
  simp [mkR, opcodeOf, rdOf, funct3Of, rs1Of, rs2Of, funct7Of, BitVec.extractLsb'_or]

@[simp] theorem fields_mkAmo (f5 : BitVec 5) (aq rl : BitVec 1) :
    let w := mkAmo f5 aq rl rs2 rs1 f rd
    opcodeOf w = 0b0101111#7 ∧ rdOf w = rd ∧ funct3Of w = f ∧ rs1Of w = rs1 ∧ rs2Of w = rs2 ∧
      w.extractLsb' 25 1 = rl ∧ w.extractLsb' 26 1 = aq ∧ funct5Of w = f5 := by
  simp [mkAmo, opcodeOf, rdOf, funct3Of, rs1Of, rs2Of, funct5Of, BitVec.extractLsb'_or]

@[simp] theorem fields_mkR4 (high : BitVec 5) (fmt : BitVec 2) (rm : BitVec 3) :
    let w := mkR4 high fmt rs2 rs1 rm rd op
    opcodeOf w = op ∧ rdOf w = rd ∧ funct3Of w = rm ∧ rs1Of w = rs1 ∧ rs2Of w = rs2 ∧ fmtOf w = fmt ∧
      funct5Of w = high ∧ rs3Of w = high := by
  simp [mkR4, opcodeOf, rdOf, funct3Of, rs1Of, rs2Of, fmtOf, funct5Of, rs3Of, BitVec.extractLsb'_or]

@[simp] theorem fields_mkI (imm : BitVec 12) :
    let w := mkI imm rs1 f rd op
    opcodeOf w = op ∧ rdOf w = rd ∧ funct3Of w = f ∧ rs1Of w = rs1 ∧ immIOf w = imm := by
  simp [mkI, opcodeOf, rdOf, funct3Of, rs1Of, immIOf, BitVec.extractLsb'_or]

@[simp] theorem fields_mkShift (f6 shamt : BitVec 6) :
    let w := mkShift f6 shamt rs1 f rd
    opcodeOf w = 0b0010011#7 ∧ rdOf w = rd ∧ funct3Of w = f ∧ rs1Of w = rs1 ∧ w.extractLsb' 20 6 = shamt ∧
      w.extractLsb' 26 6 = f6 := by
  simp [mkShift, opcodeOf, rdOf, funct3Of, rs1Of, BitVec.extractLsb'_or]

@[simp] theorem fields_mkS (imm : BitVec 12) :
    let w := mkS imm rs2 rs1 f op
    opcodeOf w = op ∧ funct3Of w = f ∧ rs1Of w = rs1 ∧ rs2Of w = rs2 ∧ immSOf w = imm := by
  simp [mkS, opcodeOf, funct3Of, rs1Of, rs2Of, immSOf, BitVec.extractLsb'_or]

@[simp] theorem fields_mkB (imm : BitVec 13) :
    let w := mkB imm rs2 rs1 f
    opcodeOf w = 0b1100011#7 ∧ funct3Of w = f ∧ rs1Of w = rs1 ∧ rs2Of w = rs2 ∧
      immBOf w = place 13 1 (imm.extractLsb' 1 12) := by
  simp [mkB, opcodeOf, funct3Of, rs1Of, rs2Of, immBOf, BitVec.extractLsb'_or]

@[simp] theorem fields_mkU (imm : BitVec 20) :
    let w := mkU imm rd op
    opcodeOf w = op ∧ rdOf w = rd ∧ immUOf w = imm := by
  simp [mkU, opcodeOf, rdOf, immUOf, BitVec.extractLsb'_or]

@[simp] theorem fields_mkJ (imm : BitVec 21) :
    let w := mkJ imm rd
    opcodeOf w = 0b1101111#7 ∧ rdOf w = rd ∧ immJOf w = place 21 1 (imm.extractLsb' 1 20) := by
  simp [mkJ, opcodeOf, rdOf, immJOf, BitVec.extractLsb'_or]

end

/-! ### A word from its fields -/

section
variable {w : BitVec 32} {f : BitVec 3} {op : BitVec 7}

theorem mkR_of_fields {f7 : BitVec 7} (h7 : funct7Of w = f7) (hf : funct3Of w = f) (hop : opcodeOf w = op) :
    mkR f7 (rs2Of w) (rs1Of w) f (rdOf w) op = w := by
  subst h7 hf hop
  simp [mkR, funct7Of, rs2Of, rs1Of, funct3Of, rdOf, opcodeOf]

theorem mkAmo_of_fields {f5 : BitVec 5} {rs2 : RegIdx} (h5 : funct5Of w = f5) (hrs2 : rs2Of w = rs2)
    (hf : funct3Of w = f) (hop : opcodeOf w = 0b0101111#7) :
    mkAmo f5 (w.extractLsb' 26 1) (w.extractLsb' 25 1) rs2 (rs1Of w) f (rdOf w) = w := by
  subst h5 hrs2 hf
  rw [mkAmo, ← hop]
  simp [funct5Of, rs2Of, rs1Of, funct3Of, rdOf, opcodeOf]

theorem mkR4_of_fields {high : BitVec 5} {fmt : BitVec 2} {rs2 : RegIdx} {rm : BitVec 3} (hhigh : funct5Of w = high)
    (hfmt : fmtOf w = fmt) (hrs2 : rs2Of w = rs2) (hrm : funct3Of w = rm) (hop : opcodeOf w = op) :
    mkR4 high fmt rs2 (rs1Of w) rm (rdOf w) op = w := by
  subst hhigh hfmt hrs2 hrm hop
  simp [mkR4, funct5Of, fmtOf, rs2Of, rs1Of, funct3Of, rdOf, opcodeOf]

theorem mkI_of_fields {imm : BitVec 12} {rs1 rd : RegIdx} (himm : immIOf w = imm) (hrs1 : rs1Of w = rs1)
    (hf : funct3Of w = f) (hrd : rdOf w = rd) (hop : opcodeOf w = op) : mkI imm rs1 f rd op = w := by
  subst himm hrs1 hf hrd hop
  simp [mkI, immIOf, rs1Of, funct3Of, rdOf, opcodeOf]

theorem mkShift_of_fields {f6 : BitVec 6} (h6 : w.extractLsb' 26 6 = f6) (hf : funct3Of w = f)
    (hop : opcodeOf w = 0b0010011#7) : mkShift f6 (w.extractLsb' 20 6) (rs1Of w) f (rdOf w) = w := by
  subst h6 hf
  rw [mkShift, ← hop]
  simp [rs1Of, funct3Of, rdOf, opcodeOf]

theorem mkS_of_fields (hf : funct3Of w = f) (hop : opcodeOf w = op) :
    mkS (immSOf w) (rs2Of w) (rs1Of w) f op = w := by
  subst hf hop
  simp [mkS, immSOf, rs2Of, rs1Of, funct3Of, opcodeOf, BitVec.extractLsb'_or]

theorem mkB_of_fields (hf : funct3Of w = f) (hop : opcodeOf w = 0b1100011#7) :
    mkB (immBOf w) (rs2Of w) (rs1Of w) f = w := by
  subst hf
  rw [mkB, ← hop]
  simp [immBOf, rs2Of, rs1Of, funct3Of, opcodeOf, BitVec.extractLsb'_or]

theorem mkU_of_fields (hop : opcodeOf w = op) : mkU (immUOf w) (rdOf w) op = w := by
  subst hop
  simp [mkU, immUOf, rdOf, opcodeOf]

theorem mkJ_of_fields (hop : opcodeOf w = 0b1101111#7) : mkJ (immJOf w) (rdOf w) = w := by
  rw [mkJ, ← hop]
  simp [immJOf, rdOf, opcodeOf, BitVec.extractLsb'_or]

end

end Sys2Proof
end

section
/-! The 16-bit formats (R121), both ways. The encoder writes them out instruction by instruction; each has a
name here, and unfolds to what the encoder writes. -/

namespace Sys2Proof

/-! ### The 16-bit formats the encoder writes out -/

/-- CIW (R121, R267): C.ADDI4SPN. -/
def mkCiw (uimm : BitVec 10) (rd : RegIdx3) : BitVec 16 :=
  place 16 13 0b000#3 ||| place 16 11 (uimm.extractLsb' 4 2) ||| place 16 7 (uimm.extractLsb' 6 4)
    ||| place 16 6 (uimm.extractLsb' 2 1) ||| place 16 5 (uimm.extractLsb' 3 1) ||| place 16 2 rd
    ||| place 16 0 0b00#2
/-- CL and CS with a word offset (R121, R254, R258). -/
def mkClw (funct3 : BitVec 3) (uimm : BitVec 7) (rs1 r : RegIdx3) : BitVec 16 :=
  place 16 13 funct3 ||| place 16 10 (uimm.extractLsb' 3 3) ||| place 16 7 rs1
    ||| place 16 6 (uimm.extractLsb' 2 1) ||| place 16 5 (uimm.extractLsb' 6 1) ||| place 16 2 r
    ||| place 16 0 0b00#2
/-- CL and CS with a doubleword offset (R121, R256, R260). -/
def mkCld (funct3 : BitVec 3) (uimm : BitVec 8) (rs1 r : RegIdx3) : BitVec 16 :=
  place 16 13 funct3 ||| place 16 10 (uimm.extractLsb' 3 3) ||| place 16 7 rs1
    ||| place 16 5 (uimm.extractLsb' 6 2) ||| place 16 2 r ||| place 16 0 0b00#2
/-- CR (R121), and CI with its immediate in two parts. -/
def mkCr (funct3 : BitVec 3) (high : BitVec 1) (rd rs2 : RegIdx) (op : BitVec 2) : BitVec 16 :=
  place 16 13 funct3 ||| place 16 12 high ||| place 16 7 rd ||| place 16 2 rs2 ||| place 16 0 op
/-- CI (R121, R264). -/
def mkCi (funct3 : BitVec 3) (imm : BitVec 6) (rd : RegIdx) (op : BitVec 2) : BitVec 16 :=
  mkCr funct3 (imm.extractLsb' 5 1) rd (imm.extractLsb' 0 5) op
/-- CI of C.ADDI16SP (R266). -/
def mkCi16sp (imm : BitVec 10) : BitVec 16 :=
  place 16 13 0b011#3 ||| place 16 12 (imm.extractLsb' 9 1) ||| place 16 7 0b00010#5
    ||| place 16 6 (imm.extractLsb' 4 1) ||| place 16 5 (imm.extractLsb' 6 1)
    ||| place 16 3 (imm.extractLsb' 7 2) ||| place 16 2 (imm.extractLsb' 5 1) ||| place 16 0 0b01#2
/-- CI loads of a word (R121, R255). -/
def mkClwsp (funct3 : BitVec 3) (uimm : BitVec 8) (rd : RegIdx) : BitVec 16 :=
  place 16 13 funct3 ||| place 16 12 (uimm.extractLsb' 5 1) ||| place 16 7 rd
    ||| place 16 4 (uimm.extractLsb' 2 3) ||| place 16 2 (uimm.extractLsb' 6 2) ||| place 16 0 0b10#2
/-- CI loads of a doubleword (R121, R257). -/
def mkCldsp (funct3 : BitVec 3) (uimm : BitVec 9) (rd : RegIdx) : BitVec 16 :=
  place 16 13 funct3 ||| place 16 12 (uimm.extractLsb' 5 1) ||| place 16 7 rd
    ||| place 16 5 (uimm.extractLsb' 3 2) ||| place 16 2 (uimm.extractLsb' 6 3) ||| place 16 0 0b10#2
/-- CSS with a word offset (R121, R259). -/
def mkCswsp (funct3 : BitVec 3) (uimm : BitVec 8) (rs2 : RegIdx) : BitVec 16 :=
  place 16 13 funct3 ||| place 16 9 (uimm.extractLsb' 2 4) ||| place 16 7 (uimm.extractLsb' 6 2)
    ||| place 16 2 rs2 ||| place 16 0 0b10#2
/-- CSS with a doubleword offset (R121, R261). -/
def mkCsdsp (funct3 : BitVec 3) (uimm : BitVec 9) (rs2 : RegIdx) : BitVec 16 :=
  place 16 13 funct3 ||| place 16 10 (uimm.extractLsb' 3 3) ||| place 16 7 (uimm.extractLsb' 6 3)
    ||| place 16 2 rs2 ||| place 16 0 0b10#2
/-- CB of the shifts and C.ANDI (R121, R124). -/
def mkCbAlu (funct2 : BitVec 2) (imm : BitVec 6) (rd : RegIdx3) : BitVec 16 :=
  place 16 13 0b100#3 ||| place 16 12 (imm.extractLsb' 5 1) ||| place 16 10 funct2 ||| place 16 7 rd
    ||| place 16 2 (imm.extractLsb' 0 5) ||| place 16 0 0b01#2
/-- CA (R121); the low three bits of `funct6`. -/
def mkCa (funct : BitVec 3) (rd : RegIdx3) (funct2 : BitVec 2) (rs2 : RegIdx3) : BitVec 16 :=
  place 16 13 0b100#3 ||| place 16 10 funct ||| place 16 7 rd ||| place 16 5 funct2 ||| place 16 2 rs2
    ||| place 16 0 0b01#2
/-- CB of the branches (R121, R273). -/
def mkCb (funct3 : BitVec 3) (imm : BitVec 9) (rs1 : RegIdx3) : BitVec 16 :=
  place 16 13 funct3 ||| place 16 12 (imm.extractLsb' 8 1) ||| place 16 10 (imm.extractLsb' 3 2)
    ||| place 16 7 rs1 ||| place 16 5 (imm.extractLsb' 6 2) ||| place 16 3 (imm.extractLsb' 1 2)
    ||| place 16 2 (imm.extractLsb' 5 1) ||| place 16 0 0b01#2
/-- CJ (R121, R275). -/
def mkCj (funct3 : BitVec 3) (imm : BitVec 12) : BitVec 16 :=
  place 16 13 funct3 ||| place 16 12 (imm.extractLsb' 11 1) ||| place 16 11 (imm.extractLsb' 4 1)
    ||| place 16 9 (imm.extractLsb' 8 2) ||| place 16 8 (imm.extractLsb' 10 1)
    ||| place 16 7 (imm.extractLsb' 6 1) ||| place 16 6 (imm.extractLsb' 7 1)
    ||| place 16 3 (imm.extractLsb' 1 3) ||| place 16 2 (imm.extractLsb' 5 1) ||| place 16 0 0b01#2

section
variable (f : BitVec 3) (op : BitVec 2) (r rd rs2 : RegIdx) (r1 r2 : RegIdx3)

@[simp] theorem fields_mkCiw (uimm : BitVec 10) :
    let h := mkCiw uimm r1
    h.extractLsb' 0 2 = 0b00#2 ∧ h.extractLsb' 13 3 = 0b000#3 ∧ lowReg3 h = r1 ∧
      ciwUimm h = place 10 2 (uimm.extractLsb' 2 8) := by
  simp [mkCiw, lowReg3, ciwUimm, BitVec.extractLsb'_or]

@[simp] theorem fields_mkClw (uimm : BitVec 7) :
    let h := mkClw f uimm r1 r2
    h.extractLsb' 0 2 = 0b00#2 ∧ h.extractLsb' 13 3 = f ∧ highReg3 h = r1 ∧ lowReg3 h = r2 ∧
      clwUimm h = place 7 2 (uimm.extractLsb' 2 5) := by
  simp [mkClw, highReg3, lowReg3, clwUimm, BitVec.extractLsb'_or]

@[simp] theorem fields_mkCld (uimm : BitVec 8) :
    let h := mkCld f uimm r1 r2
    h.extractLsb' 0 2 = 0b00#2 ∧ h.extractLsb' 13 3 = f ∧ highReg3 h = r1 ∧ lowReg3 h = r2 ∧
      cldUimm h = place 8 3 (uimm.extractLsb' 3 5) := by
  simp [mkCld, highReg3, lowReg3, cldUimm, BitVec.extractLsb'_or]

@[simp] theorem fields_mkCr (b : BitVec 1) :
    let h := mkCr f b r rs2 op
    h.extractLsb' 0 2 = op ∧ h.extractLsb' 13 3 = f ∧ h.extractLsb' 12 1 = b ∧ highReg h = r ∧
      lowReg h = rs2 := by
  simp [mkCr, highReg, lowReg, BitVec.extractLsb'_or]

@[simp] theorem fields_mkCi (imm : BitVec 6) :
    let h := mkCi f imm r op
    h.extractLsb' 0 2 = op ∧ h.extractLsb' 13 3 = f ∧ highReg h = r ∧ ciImm h = imm := by
  simp [mkCi, mkCr, highReg, ciImm, BitVec.extractLsb'_or]

@[simp] theorem fields_mkCi16sp (imm : BitVec 10) :
    let h := mkCi16sp imm
    h.extractLsb' 0 2 = 0b01#2 ∧ h.extractLsb' 13 3 = 0b011#3 ∧ highReg h = 2#5 ∧
      addi16spImm h = place 10 4 (imm.extractLsb' 4 6) := by
  simp [mkCi16sp, highReg, addi16spImm, BitVec.extractLsb'_or]

@[simp] theorem fields_mkClwsp (uimm : BitVec 8) :
    let h := mkClwsp f uimm r
    h.extractLsb' 0 2 = 0b10#2 ∧ h.extractLsb' 13 3 = f ∧ highReg h = r ∧
      lwspUimm h = place 8 2 (uimm.extractLsb' 2 6) := by
  simp [mkClwsp, highReg, lwspUimm, BitVec.extractLsb'_or]

@[simp] theorem fields_mkCldsp (uimm : BitVec 9) :
    let h := mkCldsp f uimm r
    h.extractLsb' 0 2 = 0b10#2 ∧ h.extractLsb' 13 3 = f ∧ highReg h = r ∧
      ldspUimm h = place 9 3 (uimm.extractLsb' 3 6) := by
  simp [mkCldsp, highReg, ldspUimm, BitVec.extractLsb'_or]

@[simp] theorem fields_mkCswsp (uimm : BitVec 8) :
    let h := mkCswsp f uimm r
    h.extractLsb' 0 2 = 0b10#2 ∧ h.extractLsb' 13 3 = f ∧ lowReg h = r ∧
      swspUimm h = place 8 2 (uimm.extractLsb' 2 6) := by
  simp [mkCswsp, lowReg, swspUimm, BitVec.extractLsb'_or]

@[simp] theorem fields_mkCsdsp (uimm : BitVec 9) :
    let h := mkCsdsp f uimm r
    h.extractLsb' 0 2 = 0b10#2 ∧ h.extractLsb' 13 3 = f ∧ lowReg h = r ∧
      sdspUimm h = place 9 3 (uimm.extractLsb' 3 6) := by
  simp [mkCsdsp, lowReg, sdspUimm, BitVec.extractLsb'_or]

@[simp] theorem fields_mkCbAlu (funct2 : BitVec 2) (imm : BitVec 6) :
    let h := mkCbAlu funct2 imm r1
    h.extractLsb' 0 2 = 0b01#2 ∧ h.extractLsb' 13 3 = 0b100#3 ∧ h.extractLsb' 10 2 = funct2 ∧ highReg3 h = r1 ∧
      ciImm h = imm := by
  simp [mkCbAlu, highReg3, ciImm, BitVec.extractLsb'_or]

@[simp] theorem fields_mkCa (funct2 : BitVec 2) :
    let h := mkCa f r1 funct2 r2
    h.extractLsb' 0 2 = 0b01#2 ∧ h.extractLsb' 13 3 = 0b100#3 ∧ h.extractLsb' 12 1 = f.extractLsb' 2 1 ∧
      h.extractLsb' 10 2 = f.extractLsb' 0 2 ∧ h.extractLsb' 5 2 = funct2 ∧ highReg3 h = r1 ∧ lowReg3 h = r2 := by
  simp [mkCa, highReg3, lowReg3, BitVec.extractLsb'_or]

@[simp] theorem fields_mkCb (imm : BitVec 9) :
    let h := mkCb f imm r1
    h.extractLsb' 0 2 = 0b01#2 ∧ h.extractLsb' 13 3 = f ∧ highReg3 h = r1 ∧
      cbImm h = place 9 1 (imm.extractLsb' 1 8) := by
  simp [mkCb, highReg3, cbImm, BitVec.extractLsb'_or]

@[simp] theorem fields_mkCj (imm : BitVec 12) :
    let h := mkCj f imm
    h.extractLsb' 0 2 = 0b01#2 ∧ h.extractLsb' 13 3 = f ∧ cjImm h = place 12 1 (imm.extractLsb' 1 11) := by
  simp [mkCj, cjImm, BitVec.extractLsb'_or]

end

section
variable {h : BitVec 16} {f : BitVec 3} {op : BitVec 2}

theorem mkCiw_of_fields (hop : h.extractLsb' 0 2 = 0b00#2) (hf : h.extractLsb' 13 3 = 0b000#3) :
    mkCiw (ciwUimm h) (lowReg3 h) = h := by
  rw [mkCiw, ← hop, ← hf]
  simp [ciwUimm, lowReg3, BitVec.extractLsb'_or]

theorem mkClw_of_fields (hop : h.extractLsb' 0 2 = 0b00#2) (hf : h.extractLsb' 13 3 = f) :
    mkClw f (clwUimm h) (highReg3 h) (lowReg3 h) = h := by
  rw [mkClw, ← hop, ← hf]
  simp [clwUimm, highReg3, lowReg3, BitVec.extractLsb'_or]

theorem mkCld_of_fields (hop : h.extractLsb' 0 2 = 0b00#2) (hf : h.extractLsb' 13 3 = f) :
    mkCld f (cldUimm h) (highReg3 h) (lowReg3 h) = h := by
  rw [mkCld, ← hop, ← hf]
  simp [cldUimm, highReg3, lowReg3, BitVec.extractLsb'_or]

theorem mkCr_of_fields {b : BitVec 1} {rd rs2 : RegIdx} (hop : h.extractLsb' 0 2 = op)
    (hf : h.extractLsb' 13 3 = f) (hb : h.extractLsb' 12 1 = b) (hrd : highReg h = rd) (hrs2 : lowReg h = rs2) :
    mkCr f b rd rs2 op = h := by
  subst hop hf hb hrd hrs2
  simp [mkCr, highReg, lowReg]

theorem mkCi_of_fields (hop : h.extractLsb' 0 2 = op) (hf : h.extractLsb' 13 3 = f) :
    mkCi f (ciImm h) (highReg h) op = h :=
  mkCr_of_fields hop hf (by simp [ciImm, BitVec.extractLsb'_or]) rfl
    (by simp [ciImm, lowReg, BitVec.extractLsb'_or])

theorem mkCi16sp_of_fields (hop : h.extractLsb' 0 2 = 0b01#2) (hf : h.extractLsb' 13 3 = 0b011#3)
    (hsp : highReg h = 2#5) : mkCi16sp (addi16spImm h) = h := by
  rw [mkCi16sp, ← hop, ← hf, ← hsp]
  simp [addi16spImm, highReg, BitVec.extractLsb'_or]

theorem mkClwsp_of_fields (hop : h.extractLsb' 0 2 = 0b10#2) (hf : h.extractLsb' 13 3 = f) :
    mkClwsp f (lwspUimm h) (highReg h) = h := by
  rw [mkClwsp, ← hop, ← hf]
  simp [lwspUimm, highReg, BitVec.extractLsb'_or]

theorem mkCldsp_of_fields (hop : h.extractLsb' 0 2 = 0b10#2) (hf : h.extractLsb' 13 3 = f) :
    mkCldsp f (ldspUimm h) (highReg h) = h := by
  rw [mkCldsp, ← hop, ← hf]
  simp [ldspUimm, highReg, BitVec.extractLsb'_or]

theorem mkCswsp_of_fields (hop : h.extractLsb' 0 2 = 0b10#2) (hf : h.extractLsb' 13 3 = f) :
    mkCswsp f (swspUimm h) (lowReg h) = h := by
  rw [mkCswsp, ← hop, ← hf]
  simp [swspUimm, lowReg, BitVec.extractLsb'_or]

theorem mkCsdsp_of_fields (hop : h.extractLsb' 0 2 = 0b10#2) (hf : h.extractLsb' 13 3 = f) :
    mkCsdsp f (sdspUimm h) (lowReg h) = h := by
  rw [mkCsdsp, ← hop, ← hf]
  simp [sdspUimm, lowReg, BitVec.extractLsb'_or]

theorem mkCbAlu_of_fields {funct2 : BitVec 2} (hop : h.extractLsb' 0 2 = 0b01#2)
    (hf : h.extractLsb' 13 3 = 0b100#3) (h10 : h.extractLsb' 10 2 = funct2) :
    mkCbAlu funct2 (ciImm h) (highReg3 h) = h := by
  rw [mkCbAlu, ← hop, ← hf, ← h10]
  simp [ciImm, highReg3, BitVec.extractLsb'_or]

theorem mkCa_of_fields {funct2 : BitVec 2} (hop : h.extractLsb' 0 2 = 0b01#2)
    (hf : h.extractLsb' 13 3 = 0b100#3) (h10 : h.extractLsb' 10 3 = f) (h5 : h.extractLsb' 5 2 = funct2) :
    mkCa f (highReg3 h) funct2 (lowReg3 h) = h := by
  rw [mkCa, ← hop, ← hf, ← h10, ← h5]
  simp [highReg3, lowReg3]

/-- The low bits of `funct6`, from the two parts in which the decoder reads them. -/
theorem funct6_of_parts {b : BitVec 1} {f2 : BitVec 2} (h12 : h.extractLsb' 12 1 = b)
    (h10 : h.extractLsb' 10 2 = f2) : h.extractLsb' 10 3 = b ++ f2 := by
  rw [← h12, ← h10, BitVec.extractLsb'_append_extractLsb'_eq_extractLsb' (show 12 = 10 + 2 from rfl)]

theorem mkCb_of_fields (hop : h.extractLsb' 0 2 = 0b01#2) (hf : h.extractLsb' 13 3 = f) :
    mkCb f (cbImm h) (highReg3 h) = h := by
  rw [mkCb, ← hop, ← hf]
  simp [cbImm, highReg3, BitVec.extractLsb'_or]

theorem mkCj_of_fields (hop : h.extractLsb' 0 2 = 0b01#2) (hf : h.extractLsb' 13 3 = f) :
    mkCj f (cjImm h) = h := by
  rw [mkCj, ← hop, ← hf]
  simp [cjImm, BitVec.extractLsb'_or]

end

end Sys2Proof
end

section
/-! Encoding what the bits of a word decode to gives the word again (O5), a major opcode (R109) or a quadrant
(R123) at a time: each arm of the decoder fixes the fields it looks at and copies the others. -/

namespace Sys2Proof

/-- The instruction whose bits an encoded instruction has (R100). -/
def rawDecode (x : Xlen) : Encoded → Option Instr
  | .half h => rawDecode16 x h
  | .word w => rawDecode32 w

section
variable {w : BitVec 32} {i : Instr} {op : BitVec 7}

/-! ### A major opcode at a time -/

theorem encode_of_decodeLoad (hop : opcodeOf w = 0b0000011#7) (h : decodeLoad w = some i) :
    encode i = .word w := by
  unfold decodeLoad at h
  split at h <;> cases h <;> exact congrArg Encoded.word (mkI_of_fields rfl rfl ‹_› rfl hop)

theorem encode_of_decodeLoadFp (hop : opcodeOf w = 0b0000111#7) (h : decodeLoadFp w = some i) :
    encode i = .word w := by
  unfold decodeLoadFp at h
  split at h <;> cases h <;> exact congrArg Encoded.word (mkI_of_fields rfl rfl ‹_› rfl hop)

theorem encode_of_decodeStore (hop : opcodeOf w = 0b0100011#7) (h : decodeStore w = some i) :
    encode i = .word w := by
  unfold decodeStore at h
  split at h <;> cases h <;> exact congrArg Encoded.word (mkS_of_fields ‹_› hop)

theorem encode_of_decodeStoreFp (hop : opcodeOf w = 0b0100111#7) (h : decodeStoreFp w = some i) :
    encode i = .word w := by
  unfold decodeStoreFp at h
  split at h <;> cases h <;> exact congrArg Encoded.word (mkS_of_fields ‹_› hop)

theorem encode_of_decodeBranch (hop : opcodeOf w = 0b1100011#7) (h : decodeBranch w = some i) :
    encode i = .word w := by
  unfold decodeBranch at h
  split at h <;> cases h <;> exact congrArg Encoded.word (mkB_of_fields ‹_› hop)

theorem encode_of_decodeJalr (hop : opcodeOf w = 0b1100111#7) (h : decodeJalr w = some i) :
    encode i = .word w := by
  unfold decodeJalr at h
  split at h <;> cases h
  exact congrArg Encoded.word (mkI_of_fields rfl rfl ‹_› rfl hop)

theorem encode_of_decodeMiscMem (hop : opcodeOf w = 0b0001111#7) (h : decodeMiscMem w = some i) :
    encode i = .word w := by
  unfold decodeMiscMem at h
  split at h
  case h_1 hf =>
    cases h
    refine congrArg Encoded.word ?_
    rw [← hf, ← hop]
    simp [rs1Of, funct3Of, rdOf, opcodeOf]
  case h_2 hf =>
    cases h
    exact congrArg Encoded.word (mkI_of_fields rfl rfl hf rfl hop)
  case h_3 => cases h

theorem encode_of_decodeOpImm (hop : opcodeOf w = 0b0010011#7) (h : decodeOpImm w = some i) :
    encode i = .word w := by
  simp only [decodeOpImm] at h
  split at h
  case h_7 hf =>
    split at h <;> cases h
    exact congrArg Encoded.word (mkShift_of_fields ‹_› hf hop)
  case h_8 hf =>
    split at h
    · cases h
      exact congrArg Encoded.word (mkShift_of_fields ‹_› hf hop)
    · split at h <;> cases h
      exact congrArg Encoded.word (mkShift_of_fields ‹_› hf hop)
  all_goals
    cases h <;> exact congrArg Encoded.word (mkI_of_fields rfl rfl ‹_› rfl hop)

theorem encode_of_decodeOpImm32 (hop : opcodeOf w = 0b0011011#7) (h : decodeOpImm32 w = some i) :
    encode i = .word w := by
  unfold decodeOpImm32 at h
  split at h
  case h_1 hf =>
    cases h
    exact congrArg Encoded.word (mkI_of_fields rfl rfl hf rfl hop)
  case h_2 hf =>
    split at h <;> cases h
    exact congrArg Encoded.word (mkR_of_fields ‹_› hf hop)
  case h_3 hf =>
    split at h
    · cases h
      exact congrArg Encoded.word (mkR_of_fields ‹_› hf hop)
    · split at h <;> cases h
      exact congrArg Encoded.word (mkR_of_fields ‹_› hf hop)
  case h_4 => cases h

theorem encode_decodeOpBase (hop : opcodeOf w = 0b0110011#7) (h7 : funct7Of w = 0b0000000#7) :
    encode (decodeOpBase w) = .word w := by
  unfold decodeOpBase
  split
  case h_8 h0 h1 h2 h3 h4 h5 h6 =>
    have hf := eq_seven_of_ne h0 h1 h2 h3 h4 h5 h6
    exact congrArg Encoded.word (mkR_of_fields h7 hf hop)
  all_goals exact congrArg Encoded.word (mkR_of_fields h7 ‹_› hop)

theorem encode_decodeOpMul (hop : opcodeOf w = 0b0110011#7) (h7 : funct7Of w = 0b0000001#7) :
    encode (decodeOpMul w) = .word w := by
  unfold decodeOpMul
  split
  case h_8 h0 h1 h2 h3 h4 h5 h6 =>
    have hf := eq_seven_of_ne h0 h1 h2 h3 h4 h5 h6
    exact congrArg Encoded.word (mkR_of_fields h7 hf hop)
  all_goals exact congrArg Encoded.word (mkR_of_fields h7 ‹_› hop)

theorem encode_of_decodeOp (hop : opcodeOf w = 0b0110011#7) (h : decodeOp w = some i) :
    encode i = .word w := by
  unfold decodeOp at h
  split at h
  case h_1 h7 =>
    cases h
    exact encode_decodeOpBase hop h7
  case h_2 h7 =>
    cases h
    exact encode_decodeOpMul hop h7
  case h_3 h7 =>
    split at h <;> cases h <;> exact congrArg Encoded.word (mkR_of_fields h7 ‹_› hop)
  case h_4 => cases h

theorem encode_of_decodeOp32 (hop : opcodeOf w = 0b0111011#7) (h : decodeOp32 w = some i) :
    encode i = .word w := by
  unfold decodeOp32 at h
  split at h
  case h_4 => cases h
  all_goals
    split at h <;> cases h <;> exact congrArg Encoded.word (mkR_of_fields ‹_› ‹_› hop)

theorem encode_of_decodePriv (hop : opcodeOf w = 0b1110011#7) (hf : funct3Of w = 0b000#3)
    (h : decodePriv w = some i) : encode i = .word w := by
  unfold decodePriv at h
  split_ifs at h with hrd himm hrs1
  · cases h
    exact congrArg Encoded.word (mkI_of_fields himm rfl hf hrd hop)
  · split at h <;> cases h <;> exact congrArg Encoded.word (mkI_of_fields ‹_› hrs1 hf hrd hop)

theorem encode_of_decodeSystem (hop : opcodeOf w = 0b1110011#7) (h : decodeSystem w = some i) :
    encode i = .word w := by
  unfold decodeSystem at h
  split at h
  case h_1 hf => exact encode_of_decodePriv hop hf h
  all_goals
    cases h <;> exact congrArg Encoded.word (mkI_of_fields rfl rfl ‹_› rfl hop)

theorem encode_of_byWidth {f5 : BitVec 5} {rs2 : RegIdx} {wForm dForm : Instr} (h5 : funct5Of w = f5)
    (hrs2 : rs2Of w = rs2) (hop : opcodeOf w = 0b0101111#7) (h : byWidth w wForm dForm = some i)
    (hw : encode wForm =
      .word (mkAmo f5 (w.extractLsb' 26 1) (w.extractLsb' 25 1) rs2 (rs1Of w) 0b010#3 (rdOf w)))
    (hd : encode dForm =
      .word (mkAmo f5 (w.extractLsb' 26 1) (w.extractLsb' 25 1) rs2 (rs1Of w) 0b011#3 (rdOf w))) :
    encode i = .word w := by
  unfold byWidth at h
  split at h
  case h_1 hf =>
    cases h
    exact hw.trans (congrArg Encoded.word (mkAmo_of_fields h5 hrs2 hf hop))
  case h_2 hf =>
    cases h
    exact hd.trans (congrArg Encoded.word (mkAmo_of_fields h5 hrs2 hf hop))
  case h_3 => cases h

theorem encode_of_decodeAmo (hop : opcodeOf w = 0b0101111#7) (h : decodeAmo w = some i) :
    encode i = .word w := by
  simp only [decodeAmo] at h
  split at h
  case h_1 h5 =>
    split_ifs at h with hrs2
    exact encode_of_byWidth h5 hrs2 hop h rfl rfl
  case h_12 => cases h
  all_goals exact encode_of_byWidth ‹_› rfl hop h rfl rfl

theorem encode_of_byFmt {high : BitVec 5} {rs2 : RegIdx} {rm : BitVec 3} {s d q : Instr}
    (hhigh : funct5Of w = high) (hrs2 : rs2Of w = rs2) (hrm : funct3Of w = rm) (hop : opcodeOf w = op)
    (h : byFmt (fmtOf w) s d q = some i)
    (hs : encode s = .word (mkR4 high 0b00#2 rs2 (rs1Of w) rm (rdOf w) op))
    (hd : encode d = .word (mkR4 high 0b01#2 rs2 (rs1Of w) rm (rdOf w) op))
    (hq : encode q = .word (mkR4 high 0b11#2 rs2 (rs1Of w) rm (rdOf w) op)) : encode i = .word w := by
  unfold byFmt at h
  split at h
  case h_1 hfmt =>
    cases h
    exact hs.trans (congrArg Encoded.word (mkR4_of_fields hhigh hfmt hrs2 hrm hop))
  case h_2 hfmt =>
    cases h
    exact hd.trans (congrArg Encoded.word (mkR4_of_fields hhigh hfmt hrs2 hrm hop))
  case h_3 hfmt =>
    cases h
    exact hq.trans (congrArg Encoded.word (mkR4_of_fields hhigh hfmt hrs2 hrm hop))
  case h_4 => cases h

theorem encode_of_decodeFcvtFormat (hop : opcodeOf w = 0b1010011#7) (h5 : funct5Of w = 0b01000#5)
    (h : decodeFcvtFormat w = some i) : encode i = .word w := by
  unfold decodeFcvtFormat at h
  split at h
  case h_4 => cases h
  all_goals
    split at h <;> cases h <;> exact congrArg Encoded.word (mkR4_of_fields h5 ‹_› ‹_› rfl hop)

theorem encode_of_decodeFcvtToInt (hop : opcodeOf w = 0b1010011#7) (h5 : funct5Of w = 0b11000#5)
    (h : decodeFcvtToInt w = some i) : encode i = .word w := by
  unfold decodeFcvtToInt at h
  split at h
  case h_5 => cases h
  all_goals exact encode_of_byFmt h5 ‹_› rfl hop h rfl rfl rfl

theorem encode_of_decodeFcvtFromInt (hop : opcodeOf w = 0b1010011#7) (h5 : funct5Of w = 0b11010#5)
    (h : decodeFcvtFromInt w = some i) : encode i = .word w := by
  unfold decodeFcvtFromInt at h
  split at h
  case h_5 => cases h
  all_goals exact encode_of_byFmt h5 ‹_› rfl hop h rfl rfl rfl

theorem encode_of_decodeFmvToX (hop : opcodeOf w = 0b1010011#7) (h5 : funct5Of w = 0b11100#5)
    (h : decodeFmvToX w = some i) : encode i = .word w := by
  unfold decodeFmvToX at h
  split_ifs at h with hrs2
  split at h
  case h_1 hrm =>
    split at h <;> cases h <;> exact congrArg Encoded.word (mkR4_of_fields h5 ‹_› hrs2 hrm hop)
  case h_2 hrm => exact encode_of_byFmt h5 hrs2 hrm hop h rfl rfl rfl
  case h_3 => cases h

theorem encode_of_decodeFmvFromX (hop : opcodeOf w = 0b1010011#7) (h5 : funct5Of w = 0b11110#5)
    (h : decodeFmvFromX w = some i) : encode i = .word w := by
  unfold decodeFmvFromX at h
  split_ifs at h with hfields
  obtain ⟨hrs2, hrm⟩ := hfields
  split at h <;> cases h <;> exact congrArg Encoded.word (mkR4_of_fields h5 ‹_› hrs2 hrm hop)

theorem encode_of_decodeOpFp (hop : opcodeOf w = 0b1010011#7) (h : decodeOpFp w = some i) :
    encode i = .word w := by
  simp only [decodeOpFp] at h
  split at h
  case h_5 h5 =>
    split_ifs at h with hrs2
    exact encode_of_byFmt h5 hrs2 rfl hop h rfl rfl rfl
  case h_6 h5 | h_8 h5 =>
    split at h
    case h_4 => cases h
    all_goals exact encode_of_byFmt h5 rfl ‹_› hop h rfl rfl rfl
  case h_7 h5 =>
    split at h
    case h_3 => cases h
    all_goals exact encode_of_byFmt h5 rfl ‹_› hop h rfl rfl rfl
  case h_9 h5 => exact encode_of_decodeFcvtFormat hop h5 h
  case h_10 h5 => exact encode_of_decodeFcvtToInt hop h5 h
  case h_11 h5 => exact encode_of_decodeFcvtFromInt hop h5 h
  case h_12 h5 => exact encode_of_decodeFmvToX hop h5 h
  case h_13 h5 => exact encode_of_decodeFmvFromX hop h5 h
  case h_14 => cases h
  all_goals exact encode_of_byFmt ‹_› rfl rfl hop h rfl rfl rfl

theorem encode_of_rawDecode32 (h : rawDecode32 w = some i) : encode i = .word w := by
  unfold rawDecode32 at h
  split at h
  case h_1 hop => exact encode_of_decodeLoad hop h
  case h_2 hop => exact encode_of_decodeLoadFp hop h
  case h_3 hop => exact encode_of_decodeMiscMem hop h
  case h_4 hop => exact encode_of_decodeOpImm hop h
  case h_5 hop | h_11 hop =>
    cases h
    exact congrArg Encoded.word (mkU_of_fields hop)
  case h_6 hop => exact encode_of_decodeOpImm32 hop h
  case h_7 hop => exact encode_of_decodeStore hop h
  case h_8 hop => exact encode_of_decodeStoreFp hop h
  case h_9 hop => exact encode_of_decodeAmo hop h
  case h_10 hop => exact encode_of_decodeOp hop h
  case h_12 hop => exact encode_of_decodeOp32 hop h
  case h_13 hop | h_14 hop | h_15 hop | h_16 hop => exact encode_of_byFmt rfl rfl rfl hop h rfl rfl rfl
  case h_17 hop => exact encode_of_decodeOpFp hop h
  case h_18 hop => exact encode_of_decodeBranch hop h
  case h_19 hop => exact encode_of_decodeJalr hop h
  case h_20 hop =>
    cases h
    exact congrArg Encoded.word (mkJ_of_fields hop)
  case h_21 hop => exact encode_of_decodeSystem hop h
  case h_22 => cases h

end

/-! ### A quadrant at a time -/

section
variable {x : Xlen} {h : BitVec 16} {i : Instr}

theorem encode_of_decodeQ0 (hop : h.extractLsb' 0 2 = 0b00#2) (hi : decodeQ0 x h = some i) :
    encode i = .half h := by
  unfold decodeQ0 at hi
  split at hi
  case h_1 hf =>
    cases hi
    exact congrArg Encoded.half (mkCiw_of_fields hop hf)
  case h_2 hf | h_5 hf =>
    cases hi
    exact congrArg Encoded.half (mkCld_of_fields hop hf)
  case h_3 hf | h_6 hf =>
    cases hi
    exact congrArg Encoded.half (mkClw_of_fields hop hf)
  case h_4 hf | h_7 hf =>
    cases x <;> cases hi
    case rv32 => exact congrArg Encoded.half (mkClw_of_fields hop hf)
    case rv64 => exact congrArg Encoded.half (mkCld_of_fields hop hf)
  case h_8 => cases hi

theorem encode_of_decodeQ1Alu (hop : h.extractLsb' 0 2 = 0b01#2) (hf : h.extractLsb' 13 3 = 0b100#3)
    (hi : decodeQ1Alu h = some i) : encode i = .half h := by
  unfold decodeQ1Alu at hi
  split at hi
  case h_1 h10 | h_2 h10 | h_3 h10 =>
    cases hi
    exact congrArg Encoded.half (mkCbAlu_of_fields hop hf h10)
  case h_4 h0 h1 h2 =>
    have h10 := eq_three_of_ne h0 h1 h2
    split at hi
    case isTrue h12 =>
      have hfunct : h.extractLsb' 10 3 = 0b011#3 := funct6_of_parts h12 h10
      split at hi
      case h_4 h0 h1 h2 =>
        cases hi
        exact congrArg Encoded.half (mkCa_of_fields hop hf hfunct (eq_three_of_ne h0 h1 h2))
      all_goals
        cases hi
        exact congrArg Encoded.half (mkCa_of_fields hop hf hfunct ‹_›)
    case isFalse hne =>
      have h12 := (BitVec.eq_zero_or_eq_one _).resolve_left hne
      have hfunct : h.extractLsb' 10 3 = 0b111#3 := funct6_of_parts h12 h10
      split at hi <;> cases hi <;> exact congrArg Encoded.half (mkCa_of_fields hop hf hfunct ‹_›)

theorem encode_of_decodeQ1 (hop : h.extractLsb' 0 2 = 0b01#2) (hi : decodeQ1 x h = some i) :
    encode i = .half h := by
  unfold decodeQ1 at hi
  split at hi
  case h_1 hf | h_3 hf =>
    cases hi
    exact congrArg Encoded.half (mkCi_of_fields hop hf)
  case h_2 hf =>
    cases x <;> cases hi
    case rv32 => exact congrArg Encoded.half (mkCj_of_fields hop hf)
    case rv64 => exact congrArg Encoded.half (mkCi_of_fields hop hf)
  case h_4 hf =>
    split at hi <;> cases hi
    case isTrue hsp => exact congrArg Encoded.half (mkCi16sp_of_fields hop hf hsp)
    case isFalse => exact congrArg Encoded.half (mkCi_of_fields hop hf)
  case h_5 hf => exact encode_of_decodeQ1Alu hop hf hi
  case h_6 hf =>
    cases hi
    exact congrArg Encoded.half (mkCj_of_fields hop hf)
  case h_7 hf =>
    cases hi
    exact congrArg Encoded.half (mkCb_of_fields hop hf)
  case h_8 h0 h1 h2 h3 h4 h5 h6 =>
    cases hi
    exact congrArg Encoded.half (mkCb_of_fields hop (eq_seven_of_ne h0 h1 h2 h3 h4 h5 h6))

theorem encode_decodeQ2Cr (hop : h.extractLsb' 0 2 = 0b10#2) (hf : h.extractLsb' 13 3 = 0b100#3) :
    encode (decodeQ2Cr h) = .half h := by
  unfold decodeQ2Cr
  split_ifs with h12 hlow hlow hhigh
  · exact congrArg Encoded.half (mkCr_of_fields hop hf h12 rfl hlow)
  · exact congrArg Encoded.half (mkCr_of_fields hop hf h12 rfl rfl)
  all_goals have h12 := (BitVec.eq_zero_or_eq_one _).resolve_left h12
  · calc encode .cEbreak
      _ = .half (mkCr 0b100#3 1#1 0#5 0#5 0b10#2) := by decide
      _ = .half h := congrArg Encoded.half (mkCr_of_fields hop hf h12 hhigh hlow)
  · exact congrArg Encoded.half (mkCr_of_fields hop hf h12 rfl hlow)
  · exact congrArg Encoded.half (mkCr_of_fields hop hf h12 rfl rfl)

theorem encode_of_decodeQ2 (hop : h.extractLsb' 0 2 = 0b10#2) (hi : decodeQ2 x h = some i) :
    encode i = .half h := by
  unfold decodeQ2 at hi
  split at hi
  case h_1 hf =>
    cases hi
    exact congrArg Encoded.half (mkCi_of_fields hop hf)
  case h_2 hf =>
    cases hi
    exact congrArg Encoded.half (mkCldsp_of_fields hop hf)
  case h_3 hf =>
    cases hi
    exact congrArg Encoded.half (mkClwsp_of_fields hop hf)
  case h_4 hf =>
    cases x <;> cases hi
    case rv32 => exact congrArg Encoded.half (mkClwsp_of_fields hop hf)
    case rv64 => exact congrArg Encoded.half (mkCldsp_of_fields hop hf)
  case h_5 hf =>
    cases hi
    exact encode_decodeQ2Cr hop hf
  case h_6 hf =>
    cases hi
    exact congrArg Encoded.half (mkCsdsp_of_fields hop hf)
  case h_7 hf =>
    cases hi
    exact congrArg Encoded.half (mkCswsp_of_fields hop hf)
  case h_8 h0 h1 h2 h3 h4 h5 h6 =>
    have hf := eq_seven_of_ne h0 h1 h2 h3 h4 h5 h6
    cases x <;> cases hi
    case rv32 => exact congrArg Encoded.half (mkCswsp_of_fields hop hf)
    case rv64 => exact congrArg Encoded.half (mkCsdsp_of_fields hop hf)

theorem encode_of_rawDecode16 (hi : rawDecode16 x h = some i) : encode i = .half h := by
  unfold rawDecode16 at hi
  split at hi
  case h_1 hop => exact encode_of_decodeQ0 hop hi
  case h_2 hop => exact encode_of_decodeQ1 hop hi
  case h_3 hop => exact encode_of_decodeQ2 hop hi
  case h_4 => cases hi

end

/-! ### Either length -/

theorem encode_of_rawDecode {x : Xlen} {e : Encoded} {i : Instr} (h : rawDecode x e = some i) : encode i = e := by
  cases e with
  | half p => exact encode_of_rawDecode16 h
  | word w => exact encode_of_rawDecode32 h

end Sys2Proof
end

section
/-! The bits of an instruction that is not another name of one decode to it (O4), and the decoder is the bits
and the other columns of the table (R100): the proofs of O4, O5 and O7. -/

namespace Sys2Proof

section
variable {x : Xlen} {c : Config} {i : Instr} {e : Encoded}

/-! ### The bits of an encoded instruction: the fields of its format lead through the decoder to its arm -/

theorem rawDecode32_encode {w : BitVec 32} (hcore : i.core = i) (hops : (i.row x).operandsOk = true)
    (he : encode i = .word w) : rawDecode32 w = some i := by
  cases i with
  | lb | lh | lw | lbu | lhu | ld | lwu =>
    cases he
    simp [rawDecode32, decodeLoad]
  | sb | sh | sw | sd =>
    cases he
    simp [rawDecode32, decodeStore]
  | flw | fld | flq =>
    cases he
    simp [rawDecode32, decodeLoadFp]
  | fsw | fsd | fsq =>
    cases he
    simp [rawDecode32, decodeStoreFp]
  | sll | srl | add | xor | or | and | slt | sltu =>
    cases he
    simp [rawDecode32, decodeOp, decodeOpBase]
  | sra | sub =>
    cases he
    simp [rawDecode32, decodeOp]
  | mul | mulh | mulhsu | mulhu | div | divu | rem | remu =>
    cases he
    simp [rawDecode32, decodeOp, decodeOpMul]
  | sllw | srlw | sraw | addw | subw | mulw | divw | divuw | remw | remuw =>
    cases he
    simp [rawDecode32, decodeOp32]
  | slli | srli | srai | addi | xori | ori | andi | slti | sltiu =>
    cases he
    simp [rawDecode32, decodeOpImm]
  | slliw | srliw | sraiw | addiw =>
    cases he
    simp [rawDecode32, decodeOpImm32]
  | lui | auipc =>
    cases he
    simp [rawDecode32]
  | beq | bne | blt | bge | bltu | bgeu =>
    cases he
    simp [rawDecode32, decodeBranch, place_of_lowZero (k := 1) hops]
  | jal =>
    cases he
    simp [rawDecode32, place_of_lowZero (k := 1) hops]
  | jalr =>
    cases he
    simp [rawDecode32, decodeJalr]
  | fence =>
    cases he
    simp [rawDecode32, decodeMiscMem, opcodeOf, funct3Of, rs1Of, rdOf, BitVec.extractLsb'_or]
  | fenceI =>
    cases he
    simp [rawDecode32, decodeMiscMem]
  | csrrw | csrrs | csrrc | csrrwi | csrrsi | csrrci =>
    cases he
    simp [rawDecode32, decodeSystem]
  | scall | sbreak | eret | mrts | mrth | hrts | wfi | sfenceVm =>
    cases he
    simp [rawDecode32, decodeSystem, decodePriv]
  | lrW | lrD | scW | scD | amoswapW | amoaddW | amoxorW | amoandW | amoorW | amominW | amomaxW | amominuW
  | amomaxuW | amoswapD | amoaddD | amoxorD | amoandD | amoorD | amominD | amomaxD | amominuD | amomaxuD =>
    cases he
    simp [rawDecode32, decodeAmo, byWidth]
  | fmaddS | fmaddD | fmaddQ | fmsubS | fmsubD | fmsubQ | fnmsubS | fnmsubD | fnmsubQ | fnmaddS | fnmaddD
  | fnmaddQ =>
    cases he
    simp [rawDecode32, decodeFma, byFmt]
  | fcvtSD | fcvtDS | fcvtSQ | fcvtQS | fcvtDQ | fcvtQD =>
    cases he
    simp [rawDecode32, decodeOpFp, decodeFcvtFormat]
  | fcvtSW | fcvtDW | fcvtQW | fcvtSWU | fcvtDWU | fcvtQWU | fcvtSL | fcvtDL | fcvtQL | fcvtSLU | fcvtDLU
  | fcvtQLU =>
    cases he
    simp [rawDecode32, decodeOpFp, decodeFcvtFromInt, byFmt]
  | fcvtWS | fcvtWD | fcvtWQ | fcvtWUS | fcvtWUD | fcvtWUQ | fcvtLS | fcvtLD | fcvtLQ | fcvtLUS | fcvtLUD
  | fcvtLUQ =>
    cases he
    simp [rawDecode32, decodeOpFp, decodeFcvtToInt, byFmt]
  | fmvXS | fmvXD | fclassS | fclassD | fclassQ =>
    cases he
    simp [rawDecode32, decodeOpFp, decodeFmvToX, byFmt]
  | fmvSX | fmvDX =>
    cases he
    simp [rawDecode32, decodeOpFp, decodeFmvFromX]
  | faddS | faddD | faddQ | fsubS | fsubD | fsubQ | fmulS | fmulD | fmulQ | fdivS | fdivD | fdivQ | fsqrtS
  | fsqrtD | fsqrtQ | fsgnjS | fsgnjD | fsgnjQ | fsgnjnS | fsgnjnD | fsgnjnQ | fsgnjxS | fsgnjxD | fsgnjxQ
  | fminS | fminD | fminQ | fmaxS | fmaxD | fmaxQ | feqS | feqD | feqQ | fltS | fltD | fltQ | fleS | fleD
  | fleQ =>
    cases he
    simp [rawDecode32, decodeOpFp, byFmt]
  | rdcycle | rdcycleh | rdtime | rdtimeh | rdinstret | rdinstreth | ecall | ebreak | cNop | frcsr | frrm
  | frflags | fscsr | fsrm | fsflags | fsrmi | fsflagsi => cases hcore
  | _ => cases he

theorem rawDecode16_encode {h : BitVec 16} (hcore : i.core = i) (hwidth : (i.row x).widths.has x = true)
    (hops : (i.row x).operandsOk = true) (he : encode i = .half h) : rawDecode16 x h = some i := by
  cases i with
  | cAddi4spn =>
    obtain ⟨hlow, -⟩ := Bool.and_eq_true_iff.1 hops
    cases he
    change rawDecode16 x (mkCiw _ _) = _
    simp [rawDecode16, decodeQ0, place_of_lowZero hlow]
  | cLw | cSw =>
    cases he
    change rawDecode16 x (mkClw _ _ _ _) = _
    simp [rawDecode16, decodeQ0, place_of_lowZero (k := 2) hops]
  | cFld | cFsd =>
    cases he
    change rawDecode16 x (mkCld _ _ _ _) = _
    simp [rawDecode16, decodeQ0, place_of_lowZero (k := 3) hops]
  | cFlw | cFsw =>
    obtain rfl : x = .rv32 := eq_of_beq hwidth
    cases he
    change rawDecode16 .rv32 (mkClw _ _ _ _) = _
    simp [rawDecode16, decodeQ0, place_of_lowZero (k := 2) hops]
  | cLd | cSd =>
    obtain rfl : x = .rv64 := eq_of_beq hwidth
    cases he
    change rawDecode16 .rv64 (mkCld _ _ _ _) = _
    simp [rawDecode16, decodeQ0, place_of_lowZero (k := 3) hops]
  | cAddi | cLi =>
    cases he
    change rawDecode16 x (mkCi _ _ _ _) = _
    simp [rawDecode16, decodeQ1]
  | cAddiw =>
    obtain rfl : x = .rv64 := eq_of_beq hwidth
    cases he
    change rawDecode16 .rv64 (mkCi _ _ _ _) = _
    simp [rawDecode16, decodeQ1]
  | cLui =>
    obtain ⟨hrd, -⟩ := Bool.and_eq_true_iff.1 hops
    cases he
    change rawDecode16 x (mkCi _ _ _ _) = _
    simp [rawDecode16, decodeQ1, bne_iff_ne.1 hrd]
  | cAddi16sp =>
    obtain ⟨hlow, -⟩ := Bool.and_eq_true_iff.1 hops
    cases he
    change rawDecode16 x (mkCi16sp _) = _
    simp [rawDecode16, decodeQ1, place_of_lowZero hlow]
  | cJal =>
    obtain rfl : x = .rv32 := eq_of_beq hwidth
    cases he
    change rawDecode16 .rv32 (mkCj _ _) = _
    simp [rawDecode16, decodeQ1, place_of_lowZero (k := 1) hops]
  | cJ =>
    cases he
    change rawDecode16 x (mkCj _ _) = _
    simp [rawDecode16, decodeQ1, place_of_lowZero (k := 1) hops]
  | cBeqz | cBnez =>
    cases he
    change rawDecode16 x (mkCb _ _ _) = _
    simp [rawDecode16, decodeQ1, place_of_lowZero (k := 1) hops]
  | cSrli | cSrai | cAndi =>
    cases he
    change rawDecode16 x (mkCbAlu _ _ _) = _
    simp [rawDecode16, decodeQ1, decodeQ1Alu]
  | cSub | cXor | cOr | cAnd | cSubw | cAddw =>
    cases he
    change rawDecode16 x (mkCa _ _ _ _) = _
    simp [rawDecode16, decodeQ1, decodeQ1Alu]
  | cSlli =>
    cases he
    change rawDecode16 x (mkCi _ _ _ _) = _
    simp [rawDecode16, decodeQ2]
  | cFldsp =>
    cases he
    change rawDecode16 x (mkCldsp _ _ _) = _
    simp [rawDecode16, decodeQ2, place_of_lowZero (k := 3) hops]
  | cLwsp =>
    obtain ⟨hlow, -⟩ := Bool.and_eq_true_iff.1 hops
    cases he
    change rawDecode16 x (mkClwsp _ _ _) = _
    simp [rawDecode16, decodeQ2, place_of_lowZero hlow]
  | cFlwsp =>
    obtain rfl : x = .rv32 := eq_of_beq hwidth
    cases he
    change rawDecode16 .rv32 (mkClwsp _ _ _) = _
    simp [rawDecode16, decodeQ2, place_of_lowZero (k := 2) hops]
  | cLdsp =>
    obtain rfl : x = .rv64 := eq_of_beq hwidth
    obtain ⟨hlow, -⟩ := Bool.and_eq_true_iff.1 hops
    cases he
    change rawDecode16 .rv64 (mkCldsp _ _ _) = _
    simp [rawDecode16, decodeQ2, place_of_lowZero hlow]
  | cFsdsp =>
    cases he
    change rawDecode16 x (mkCsdsp _ _ _) = _
    simp [rawDecode16, decodeQ2, place_of_lowZero (k := 3) hops]
  | cSwsp =>
    cases he
    change rawDecode16 x (mkCswsp _ _ _) = _
    simp [rawDecode16, decodeQ2, place_of_lowZero (k := 2) hops]
  | cFswsp =>
    obtain rfl : x = .rv32 := eq_of_beq hwidth
    cases he
    change rawDecode16 .rv32 (mkCswsp _ _ _) = _
    simp [rawDecode16, decodeQ2, place_of_lowZero (k := 2) hops]
  | cSdsp =>
    obtain rfl : x = .rv64 := eq_of_beq hwidth
    cases he
    change rawDecode16 .rv64 (mkCsdsp _ _ _) = _
    simp [rawDecode16, decodeQ2, place_of_lowZero (k := 3) hops]
  | cAdd | cMv | cJr | cJalr =>
    cases he
    change rawDecode16 x (mkCr _ _ _ _ _) = _
    simp [rawDecode16, decodeQ2, decodeQ2Cr, bne_iff_ne.1 hops]
  | cEbreak =>
    cases he
    rfl
  | cNop => cases hcore
  | _ => cases he

/-! ### The decoder in two parts -/

/-- No major opcode with a row has `inst[4:2] = 111` (R91). -/
theorem rawDecode32_of_long {w : BitVec 32} (hlong : w.extractLsb' 2 3 = 0b111#3) : rawDecode32 w = none := by
  have long_opcode : (opcodeOf w).extractLsb' 2 3 = 0b111#3 := by
    rwa [opcodeOf, BitVec.extractLsb'_extractLsb'_of_le (by decide)]
  unfold rawDecode32
  split
  case h_22 => rfl
  all_goals
    rename_i hop
    rw [hop] at long_opcode
    exact absurd long_opcode (by decide)

/-- An instruction read from the bits is answered where its other columns hold. -/
theorem ok_of_check_iff {j : Instr} {err : DecodeError} :
    (if j.wellFormed c then Except.ok j else .error err) = .ok i ↔ some j = some i ∧ i.wellFormed c = true := by
  constructor
  · intro h
    split at h
    case isTrue hj =>
      cases h
      exact ⟨rfl, hj⟩
    case isFalse => cases h
  · rintro ⟨⟨⟩, hi⟩
    exact if_pos hi

/-- The decoder answers the instruction of the bits, where it is well-formed (R100). -/
theorem decode_eq_ok_iff : decode c e = .ok i ↔ rawDecode c.xlen e = some i ∧ i.wellFormed c = true := by
  cases e with
  | half h =>
    cases hraw : rawDecode16 c.xlen h with
    | none => simp [decode, decode16, rawDecode, hraw]
    | some j => simpa only [decode, decode16, rawDecode, hraw] using ok_of_check_iff
  | word w =>
    by_cases hlong : w.extractLsb' 2 3 = 0b111#3
    · simp [decode, decode32, hlong, rawDecode, rawDecode32_of_long hlong]
    · cases hraw : rawDecode32 w with
      | none => simp [decode, decode32, hlong, rawDecode, hraw]
      | some j => simpa only [decode, decode32, hlong, if_false, rawDecode, hraw] using ok_of_check_iff

/-! ### Aliases and well-formedness -/

theorem Instr.wellFormed_iff : i.wellFormed c = true ↔
    (i.row c.xlen).widths.has c.xlen = true ∧ (∀ l ∈ (i.row c.xlen).ext, c.ext.has l = true) ∧
      (i.row c.xlen).operandsOk = true ∧ (c.offCard = .on ∨ (i.row c.xlen).onCard = true) := by
  simp [Instr.wellFormed, and_assoc]

theorem Instr.core_core (i : Instr) : i.core.core = i.core := by
  cases i <;> rfl

theorem encode_core (i : Instr) : encode i.core = encode i := by
  cases i with
  | cNop => decide
  | _ => rfl

/-- A core instruction asks for no more than its other names do: only C.NOP's asks for an extension, and only
FSFLAGSI's is off the card. -/
theorem Instr.wellFormed_core (h : i.wellFormed c = true) : i.core.wellFormed c = true := by
  obtain ⟨-, hext, -, hcard⟩ := Instr.wellFormed_iff.1 h
  cases i with
  | rdcycle | rdcycleh | rdtime | rdtimeh | rdinstret | rdinstreth | ecall | ebreak | frcsr | frrm | frflags
  | fscsr | fsrm | fsflags | fsrmi => exact Instr.wellFormed_iff.2 ⟨rfl, nofun, rfl, .inr rfl⟩
  | cNop => exact Instr.wellFormed_iff.2 ⟨rfl, hext, rfl, .inr rfl⟩
  | fsflagsi => exact Instr.wellFormed_iff.2 ⟨rfl, nofun, rfl, hcard⟩
  | _ => exact h

theorem rawDecode_encode (hcore : i.core = i) (hwf : i.wellFormed c = true) :
    rawDecode c.xlen (encode i) = some i := by
  obtain ⟨hwidth, -, hops, -⟩ := Instr.wellFormed_iff.1 hwf
  cases he : encode i with
  | half h => exact rawDecode16_encode hcore hwidth hops he
  | word w => exact rawDecode32_encode hcore hops he

end

/-- Settles O4: an instruction has the words of its core instruction, which is well-formed with it and its own
core instruction. -/
theorem decodeOfEncodeIsTheInstruction : Obligations.DecodeOfEncodeIsTheInstruction := by
  unfold Obligations.DecodeOfEncodeIsTheInstruction
  intro c i h
  have hwf := Instr.wellFormed_core h
  rw [← encode_core i, decode_eq_ok_iff]
  exact ⟨rawDecode_encode i.core_core hwf, hwf⟩

/-- Settles O5: the decoder answers the instruction of the bits, whose words are these bits. -/
theorem encodeOfDecodeIsTheWord : Obligations.EncodeOfDecodeIsTheWord := by
  unfold Obligations.EncodeOfDecodeIsTheWord
  intro c e i h
  obtain ⟨hraw, hwf⟩ := decode_eq_ok_iff.1 h
  exact ⟨hwf, encode_of_rawDecode hraw⟩

/-- Settles O7, word by word, by running the decoder. -/
theorem wordsDecodeAsWrittenOut : Obligations.WordsDecodeAsWrittenOut := by
  unfold Obligations.WordsDecodeAsWrittenOut
  refine ⟨?_, ?_, ?_, ?_, ?_, ?_, ?_, ?_, ?_, ?_⟩ <;> decide

end Sys2Proof
end

section
/-! The proof of O34: the names of a core instruction differ only in the instruction they name for a reported
word, and they have the same words. -/

namespace Sys2Proof.Machine

section
variable {s : State} {i j : Instr} {rd : RegIdx} {csr : BitVec 12}

/-- The instruction a CSR access is part of matters only for the word it reports. -/
theorem State.csrLaw_congr (h : encode i = encode j) (reads writes : Bool) (new : Word → Word) :
    s.csrLaw i rd csr reads writes new = s.csrLaw j rd csr reads writes new := by
  simp only [State.csrLaw, raiseIllegal, h]

theorem State.csrSwap_congr (h : encode i = encode j) (v : Word) :
    s.csrSwap i rd csr v = s.csrSwap j rd csr v := State.csrLaw_congr h _ _ _

/-- Setting the bits of `x0` under another name of CSRRS. -/
theorem State.csrSet_zero_eq_csrrs (h : encode i = encode (.csrrs rd csr 0#5)) :
    s.csrSet i rd csr 0#5 0#64 = exec (.csrrs rd csr 0#5) s := by
  simp only [exec, execCsrrs, State.readX_zero]
  exact State.csrLaw_congr h _ _ _

end

/-- Settles O34: the counter reads and the reads of `fcsr` are CSRRS with `x0`, the other CSR aliases write as
their core instruction does, and the rest have its meaning as it stands. -/
theorem aliasesRunAsTheirCoreInstruction : Obligations.AliasesRunAsTheirCoreInstruction := by
  unfold Obligations.AliasesRunAsTheirCoreInstruction
  intro i s
  have same_word := (encode_core i).symm
  cases i with
  | rdcycle | rdcycleh | rdtime | rdtimeh | rdinstret | rdinstreth | frcsr | frrm | frflags =>
    exact State.csrSet_zero_eq_csrrs same_word
  | fscsr | fsrm | fsflags | fsrmi | fsflagsi => exact State.csrSwap_congr same_word _
  | _ => rfl

end Sys2Proof.Machine
end

section
/-! The values of `XLEN` bits as integers modulo 2^`XLEN`, bit by bit, and under shifts and comparisons: the
facts the statements on the base integer instructions rest on (R12, R28, R141). -/

namespace Sys2Proof.Machine

/-! ### Integers modulo 2^`XLEN` -/

/-- The low `XLEN` bits of the word are the integer, modulo 2^`XLEN` (R12). -/
def RepresentsInt (x : Xlen) (v : Word) (i : Int) : Prop := (v.toNat : Int) ≡ i [ZMOD (2 ^ x.bits : Nat)]

section
variable {x : Xlen} {v a b : Word} {i j : Int}

/-- A word of 64 bits is known modulo 2^`XLEN` where it is known modulo 2^64. -/
theorem RepresentsInt.of_modEq (h : (v.toNat : Int) ≡ i [ZMOD (2 ^ 64 : Nat)]) : RepresentsInt x v i :=
  h.of_dvd (by cases x <;> decide)

theorem representsInt_toNat (x : Xlen) (v : Word) : RepresentsInt x v v.toNat := Int.ModEq.refl _

/-- `sext_XLEN` of a string keeps its signed value (R12). -/
theorem representsInt_xsext {n : Nat} (hn : n ≤ 64) (x : Xlen) (v : BitVec n) :
    RepresentsInt x (xsext x v) v.toInt := by
  rw [RepresentsInt, xsext_toNat hn]
  exact Int.mod_modEq _ _

theorem RepresentsInt.add (ha : RepresentsInt x a i) (hb : RepresentsInt x b j) :
    RepresentsInt x (a + b) (i + j) := by
  have sum : RepresentsInt x (a + b) (a.toNat + b.toNat) := .of_modEq <| by
    rw [BitVec.toNat_add, Int.natCast_mod, Int.natCast_add]
    exact Int.mod_modEq _ _
  exact sum.trans (Int.ModEq.add ha hb)

theorem RepresentsInt.sub (ha : RepresentsInt x a i) (hb : RepresentsInt x b j) :
    RepresentsInt x (a - b) (i - j) := by
  have difference : RepresentsInt x (a - b) (a.toNat - b.toNat) := .of_modEq <| by
    have := b.isLt
    rw [BitVec.toNat_sub, Int.ModEq]
    omega
  exact difference.trans (Int.ModEq.sub ha hb)

/-- The number the low `XLEN` bits make. -/
theorem RepresentsInt.toNat_xtrunc (h : RepresentsInt x v i) :
    ((xtrunc x v).toNat : Int) = i % (2 ^ x.bits : Nat) := by
  rw [Machine.xtrunc_toNat, Int.natCast_mod]
  exact h

/-- Bit 0 cleared, as JALR clears it (R143). -/
theorem toNat_and_not_one (v : Word) : (v &&& ~~~1#64).toNat = v.toNat - v.toNat % 2 := by
  have shifted : v &&& ~~~1#64 = (v >>> 1) <<< 1 := by
    apply BitVec.eq_of_getLsbD_eq
    intro k hk
    rcases k with _ | k
    · simp
    · simp [hk, Nat.add_comm 1 k, -BitVec.reduceNot]
  have := v.isLt
  rw [shifted, BitVec.toNat_shiftLeft, BitVec.toNat_ushiftRight, Nat.shiftLeft_eq, Nat.shiftRight_eq_div_pow]
  omega

theorem RepresentsInt.toNat_xtrunc_even (h : RepresentsInt x v i) :
    ((xtrunc x (v &&& ~~~1#64)).toNat : Int) = i % (2 ^ x.bits : Nat) - i % 2 := by
  rw [Machine.xtrunc_toNat, toNat_and_not_one]
  cases x <;> simp only [RepresentsInt, Int.ModEq, Xlen.bits] at h ⊢ <;> omega

end

/-- The U-immediate is its signed field at bit 12 (R104). -/
theorem representsInt_immU (x : Xlen) (imm : BitVec 20) : RepresentsInt x (immU x imm) (imm.toInt * 4096) := by
  have placed : (place 32 12 imm).toInt = imm.toInt * 4096 := by
    have := imm.isLt
    simp only [place, BitVec.toInt_eq_toNat_cond, BitVec.toNat_shiftLeft, BitVec.toNat_setWidth,
      Nat.shiftLeft_eq]
    omega
  rw [← placed]
  exact representsInt_xsext (by decide) x _

/-! ### The operands of an instruction -/

/-- `x[r]` is `ux` of it. -/
theorem State.representsInt_readX (s : State) (r : RegIdx) : RepresentsInt s.cfg.xlen (s.readX r) (s.ux r) :=
  representsInt_toNat _ _

/-- `x[rs1] + imm` before it is cut to `XLEN` bits (R142). -/
theorem State.representsInt_readX_add_xsext (s : State) (rs1 : RegIdx) (imm : BitVec 12) :
    RepresentsInt s.cfg.xlen (s.readX rs1 + xsext s.cfg.xlen imm) (s.ux rs1 + imm.toInt) :=
  (s.representsInt_readX rs1).add (representsInt_xsext (by decide) _ imm)

/-- The effective address (R142). -/
theorem State.ea_toNat (s : State) (rs1 : RegIdx) (imm : BitVec 12) :
    ((s.ea rs1 imm).toNat : Int) = (s.ux rs1 + imm.toInt) % s.modulus :=
  (s.representsInt_readX_add_xsext rs1 imm).toNat_xtrunc

/-- A target relative to the pc (R143). -/
theorem State.pcRel_toNat {n : Nat} (hn : n ≤ 64) (s : State) (imm : BitVec n) :
    ((s.pcRel imm).toNat : Int) = ((s.pc.toNat : Int) + imm.toInt) % s.modulus :=
  ((representsInt_toNat _ s.pc).add (representsInt_xsext hn _ imm)).toNat_xtrunc

/-- JALR's target (R143). -/
theorem State.jalrTarget_toNat (s : State) (rs1 : RegIdx) (imm : BitVec 12) :
    ((s.jalrTarget rs1 imm).toNat : Int) = (s.ux rs1 + imm.toInt) % s.modulus - (s.ux rs1 + imm.toInt) % 2 :=
  (s.representsInt_readX_add_xsext rs1 imm).toNat_xtrunc_even

/-! ### Bits -/

theorem getLsbD_xtrunc {x : Xlen} {k : Nat} (hk : k < x.bits) (v : Word) :
    (xtrunc x v).getLsbD k = v.getLsbD k := by
  cases x with
  | rv32 =>
    have hk32 : k < 32 := hk
    have hk64 : k < 64 := by omega
    simp [xtrunc, hk32, hk64]
  | rv64 => rfl

/-- The bits of a sign-extended string: its own, then copies of its sign (R12). -/
theorem getLsbD_xsext {x : Xlen} {k n : Nat} (hk : k < x.bits) (v : BitVec n) :
    (xsext x v).getLsbD k = if k < n then v.getLsbD k else v.msb := by
  have hk64 : k < 64 := hk.trans_le (by cases x <;> decide)
  rw [xsext, getLsbD_xtrunc hk, BitVec.getLsbD_signExtend]
  simp [hk64]

/-! ### Shifts -/

/-- A left shift multiplies, modulo 2^`XLEN` (R155). -/
theorem xshl_toNat (x : Xlen) (v : Word) (n : Nat) :
    (xtrunc x (xshl x v n)).toNat = v.toNat * 2 ^ n % 2 ^ x.bits := by
  rw [xshl, xtrunc_xtrunc, xtrunc_toNat, BitVec.toNat_shiftLeft, Nat.shiftLeft_eq]
  exact Nat.mod_mod_of_dvd _ (by cases x <;> decide)

/-- A logical right shift divides (R157). -/
theorem xshr_toNat {x : Xlen} {v : Word} (hv : v.toNat < 2 ^ x.bits) (n : Nat) :
    (xtrunc x (xshr x v n)).toNat = v.toNat / 2 ^ n := by
  rw [xshr, xtrunc_toNat, BitVec.toNat_ushiftRight, Nat.shiftRight_eq_div_pow, xtrunc_toNat, Nat.mod_eq_of_lt hv]
  exact Nat.mod_eq_of_lt ((Nat.div_le_self _ _).trans_lt hv)

/-- A string of 32 bits zero-extended into a word keeps its signed value under RV32 (R12). -/
theorem xsigned_rv32_setWidth (v : BitVec 32) : xsigned .rv32 (v.setWidth 64) = v.toInt := by simp [xsigned]

/-- An arithmetic right shift divides the signed value, rounding down (R159). -/
theorem xsigned_xsar (x : Xlen) (v : Word) (n : Nat) :
    xsigned x (xtrunc x (xsar x v n)) = xsigned x v / 2 ^ n := by
  have floor {w : Nat} (u : BitVec w) : (u.sshiftRight n).toInt = u.toInt / 2 ^ n := by
    rw [BitVec.toInt_sshiftRight, Int.shiftRight_eq_div_pow]
    push_cast
    rfl
  rw [xsigned_xtrunc]
  cases x with
  | rv32 => exact (xsigned_rv32_setWidth _).trans (floor _)
  | rv64 => exact floor v

/-! ### Comparisons -/

/-- A comparison writes 1 where its condition holds, else 0 (R181). -/
theorem boolWord_toNat {b : Bool} {P : Prop} [Decidable P] (h : b = true ↔ P) (x : Xlen) :
    (xtrunc x (boolWord b)).toNat = if P then 1 else 0 := by
  have bit : (xtrunc x (boolWord b)).toNat = if b then 1 else 0 := by cases x <;> cases b <;> rfl
  rw [bit]
  exact if_congr h rfl rfl

theorem xlts_iff (x : Xlen) (a b : Word) : xlts x a b = true ↔ xsigned x a < xsigned x b := decide_eq_true_iff

theorem xltu_iff (x : Xlen) (a b : Word) : xltu x a b = true ↔ xunsigned x a < xunsigned x b :=
  decide_eq_true_iff

theorem State.xunsigned_readX (s : State) (r : RegIdx) : xunsigned s.cfg.xlen (s.readX r) = s.ux r := by
  rw [xunsigned, State.readX_xtrunc, State.ux]

/-- Two registers compared as unsigned. -/
theorem State.xltu_readX_iff (s : State) (r r' : RegIdx) :
    xltu s.cfg.xlen (s.readX r) (s.readX r') = true ↔ s.ux r < s.ux r' := by
  rw [xltu_iff, s.xunsigned_readX, s.xunsigned_readX]

/-- A register compared with a sign-extended immediate as unsigned (R184). -/
theorem State.xltu_readX_xsext_iff (s : State) (r : RegIdx) (imm : BitVec 12) :
    xltu s.cfg.xlen (s.readX r) (xsext s.cfg.xlen imm) = true ↔ (s.ux r : Int) < imm.toInt % s.modulus := by
  have extended := (representsInt_xsext (by decide) s.cfg.xlen imm).toNat_xtrunc
  rw [xltu_iff, s.xunsigned_readX, State.modulus, ← extended, Int.ofNat_lt, xunsigned]

/-- A register compared with a sign-extended immediate as signed (R182). -/
theorem State.xlts_readX_xsext_iff (s : State) (r : RegIdx) (imm : BitVec 12) :
    xlts s.cfg.xlen (s.readX r) (xsext s.cfg.xlen imm) = true ↔ s.sx r < imm.toInt := by
  have fits : 12 ≤ s.cfg.xlen.bits := by cases s.cfg.xlen <;> decide
  rw [xlts_iff, xsigned_xsext fits, State.sx]

theorem State.readX_beq_iff (s : State) (r r' : RegIdx) : (s.readX r == s.readX r') = true ↔ s.ux r = s.ux r' :=
  beq_iff_eq.trans BitVec.toNat_inj.symm

/-! ### 32-bit results as signed numbers -/

section
variable {w : Nat} (v : BitVec w) (n : Nat)

theorem shiftLeft_toInt_eq_bmod : (v <<< n).toInt = (v.toInt * 2 ^ n).bmod (2 ^ w) := by
  rw [BitVec.toInt_shiftLeft, BitVec.toInt_eq_toNat_bmod, Int.bmod_mul_bmod, Nat.shiftLeft_eq]
  push_cast
  rfl

theorem ushiftRight_toInt_eq_bmod : (v >>> n).toInt = (v.toInt % 2 ^ w / 2 ^ n).bmod (2 ^ w) := by
  have unsigned : v.toInt % (2 ^ w : Nat) = v.toNat := by
    rw [BitVec.toInt_eq_toNat_bmod, Int.bmod_emod]
    exact Int.emod_eq_of_lt (by omega) (by exact_mod_cast v.isLt)
  push_cast at unsigned
  rw [BitVec.toInt_eq_toNat_bmod, BitVec.toNat_ushiftRight, Nat.shiftRight_eq_div_pow, unsigned]
  push_cast
  rfl

theorem sshiftRight_toInt_eq_bmod : (v.sshiftRight n).toInt = (v.toInt / 2 ^ n).bmod (2 ^ w) := by
  rw [← BitVec.toInt_bmod_cancel (v.sshiftRight n), BitVec.toInt_sshiftRight, Int.shiftRight_eq_div_pow]
  push_cast
  rfl

end

end Sys2Proof.Machine
end

section
/-! The proofs of O10 to O15: each instruction ends in `finishX` with a value whose number, bits or sign the
facts above give. -/

namespace Sys2Proof.Machine

/-- Settles O10: the sums and the difference are congruent to the words' own, modulo 2^`XLEN`. -/
theorem additionIsModuloTheRegisterWidth : Obligations.AdditionIsModuloTheRegisterWidth := by
  unfold Obligations.AdditionIsModuloTheRegisterWidth
  intro s rd rs1 rs2 imm
  have reg := s.representsInt_readX
  refine ⟨completesX_of_finishX rfl ?_, completesX_of_finishX rfl ?_, completesX_of_finishX rfl ?_⟩
  · exact_mod_cast ((reg rs1).add (reg rs2)).toNat_xtrunc
  · exact (s.representsInt_readX_add_xsext rs1 imm).toNat_xtrunc
  · exact ((reg rs1).sub (reg rs2)).toNat_xtrunc

/-- Settles O11: the U-immediate is the signed field times 4096. -/
theorem upperImmediatesArePlacedAtBitTwelve : Obligations.UpperImmediatesArePlacedAtBitTwelve := by
  unfold Obligations.UpperImmediatesArePlacedAtBitTwelve
  intro s rd imm
  have upper := representsInt_immU s.cfg.xlen imm
  exact ⟨completesX_of_finishX rfl upper.toNat_xtrunc,
    completesX_of_finishX rfl ((representsInt_toNat _ s.pc).add upper).toNat_xtrunc⟩

/-- Settles O12, bit by bit: a bit below `XLEN` survives the cut, and the immediate's bits are those of its
sign extension. -/
theorem logicalInstructionsWorkBitByBit : Obligations.LogicalInstructionsWorkBitByBit := by
  unfold Obligations.LogicalInstructionsWorkBitByBit
  intro s rd rs1 rs2 imm bits a b c
  have imm_bit (k : Nat) (hk : k < bits) : (xsext s.cfg.xlen imm).getLsbD k = c k := getLsbD_xsext hk imm
  refine ⟨completesX_of_finishX rfl fun k hk => ?_, completesX_of_finishX rfl fun k hk => ?_,
    completesX_of_finishX rfl fun k hk => ?_, completesX_of_finishX rfl fun k hk => ?_,
    completesX_of_finishX rfl fun k hk => ?_, completesX_of_finishX rfl fun k hk => ?_⟩
  · rw [getLsbD_xtrunc hk, BitVec.getLsbD_xor]
  · rw [getLsbD_xtrunc hk, BitVec.getLsbD_xor, imm_bit k hk]
  · rw [getLsbD_xtrunc hk, BitVec.getLsbD_or]
  · rw [getLsbD_xtrunc hk, BitVec.getLsbD_or, imm_bit k hk]
  · rw [getLsbD_xtrunc hk, BitVec.getLsbD_and]
  · rw [getLsbD_xtrunc hk, BitVec.getLsbD_and, imm_bit k hk]

/-- Settles O13: the register and the immediate forms shift alike, by their own amount. -/
theorem shiftsMultiplyAndDivideByPowersOfTwo : Obligations.ShiftsMultiplyAndDivideByPowersOfTwo := by
  unfold Obligations.ShiftsMultiplyAndDivideByPowersOfTwo
  intro s rd rs1 rs2 shamt n k
  have left := xshl_toNat s.cfg.xlen (s.readX rs1)
  have right := xshr_toNat (s.readX_lt rs1)
  have floor := xsigned_xsar s.cfg.xlen (s.readX rs1)
  refine ⟨completesX_of_finishX rfl (left n), completesX_of_finishX rfl (right n),
    completesX_of_finishX rfl (floor n), fun _ => ?_⟩
  exact ⟨completesX_of_finishX rfl (left k), completesX_of_finishX rfl (right k),
    completesX_of_finishX rfl (floor k)⟩

/-- Settles O14: each comparison is the one of the two operands' numbers. -/
theorem comparisonsWriteOneOrZero : Obligations.ComparisonsWriteOneOrZero := by
  unfold Obligations.ComparisonsWriteOneOrZero
  intro s rd rs1 rs2 imm
  exact ⟨completesX_of_finishX rfl (boolWord_toNat (xlts_iff _ _ _) _),
    completesX_of_finishX rfl (boolWord_toNat (s.xlts_readX_xsext_iff rs1 imm) _),
    completesX_of_finishX rfl (boolWord_toNat (s.xltu_readX_iff rs1 rs2) _),
    completesX_of_finishX rfl (boolWord_toNat (s.xltu_readX_xsext_iff rs1 imm) _)⟩

/-- A `W` form on RV64 writes its 32-bit result's signed value (R141). -/
theorem completesX_of_wordResult {i : Instr} {s : State} {rd : RegIdx} {v : BitVec 32} {r : Int}
    (h64 : s.cfg.xlen = .rv64) (h : exec i s = s.finishX 4 rd (wordResult v)) (hv : v.toInt = r.bmod (2 ^ 32)) :
    completesX i 4 s rd (fun u => u.toInt = r.bmod (2 ^ 32)) := by
  refine completesX_of_finishX h ?_
  rw [h64, ← hv]
  exact BitVec.toInt_signExtend_of_le (by decide)

/-- Settles O15: the 32-bit results as signed numbers. -/
theorem wordFormsSignExtendTheirResult : Obligations.WordFormsSignExtendTheirResult := by
  unfold Obligations.WordFormsSignExtendTheirResult
  intro s rd rs1 rs2 imm shamt h64 word n
  have imm_toInt : (imm.signExtend 32).toInt = imm.toInt := BitVec.toInt_signExtend_of_le (by decide)
  have left := shiftLeft_toInt_eq_bmod (s.readW rs1)
  have right := ushiftRight_toInt_eq_bmod (s.readW rs1)
  have floor := sshiftRight_toInt_eq_bmod (s.readW rs1)
  refine ⟨completesX_of_wordResult h64 rfl (BitVec.toInt_add _ _), completesX_of_wordResult h64 rfl ?_,
    completesX_of_wordResult h64 rfl BitVec.toInt_sub,
    completesX_of_wordResult h64 rfl (left n), completesX_of_wordResult h64 rfl (left shamt.toNat),
    completesX_of_wordResult h64 rfl (right n), completesX_of_wordResult h64 rfl (right shamt.toNat),
    completesX_of_wordResult h64 rfl (floor n), completesX_of_wordResult h64 rfl (floor shamt.toNat)⟩
  rw [BitVec.toInt_add, imm_toInt, State.sw, State.readW]

end Sys2Proof.Machine
end

section
/-! The proofs of O16 and O17: where branches and jumps go, and what the jumps link (R143). -/

namespace Sys2Proof.Machine

/-- A branch to `target`, taken where its condition holds: it goes there or raises for a misaligned target,
and else goes on to the next instruction (R143, R185). -/
def BranchesWhere (i : Instr) (s : State) (target : Word) (taken : Prop) : Prop :=
  (taken → target.toNat % s.cfg.ialignBytes = 0 → completesAt i s target) ∧
    (taken → target.toNat % s.cfg.ialignBytes ≠ 0 → exec i s = .fault (.instructionAddressMisaligned target)) ∧
    (¬ taken → completesAt i s (xtrunc s.cfg.xlen (s.pc + 4#64)))

theorem State.branch_taken {n : Nat} (s : State) (ilen : Nat) (imm : BitVec n) :
    s.branch ilen true imm = s.jump (s.pcRel imm) id := rfl

theorem State.branch_not_taken {n : Nat} (s : State) (ilen : Nat) (imm : BitVec n) :
    s.branch ilen false imm = .next (s.retire ilen) := rfl

/-- `State.branch` branches where its condition holds. -/
theorem branchesWhere_of_branch {i : Instr} {s : State} {b : Bool} {imm : BitVec 13} {taken : Prop}
    (h : exec i s = s.branch 4 b imm) (hb : b = true ↔ taken) : BranchesWhere i s (s.pcRel imm) taken := by
  cases b with
  | true =>
    have htaken : taken := hb.1 rfl
    rw [State.branch_taken] at h
    refine ⟨fun _ aligned => ?_, fun _ misaligned => ?_, fun hnot => absurd htaken hnot⟩
    · exact completesAt_of_retireTo (s.pcRel_xtrunc imm) (h.trans (State.jump_of_aligned aligned id))
    · exact h.trans (State.jump_of_misaligned misaligned id)
  | false =>
    have hnot : ¬ taken := fun htaken => Bool.false_ne_true (hb.2 htaken)
    rw [State.branch_not_taken] at h
    exact ⟨fun htaken => absurd htaken hnot, fun htaken => absurd htaken hnot, fun _ => completesAt_of_retire h⟩

/-- Settles O16: the six conditions are those of the comparisons. -/
theorem branchesGoWhereTheirConditionSays : Obligations.BranchesGoWhereTheirConditionSays := by
  unfold Obligations.BranchesGoWhereTheirConditionSays
  intro s rs1 rs2 imm target branch
  have eq := s.readX_beq_iff rs1 rs2
  have signed := xlts_iff s.cfg.xlen (s.readX rs1) (s.readX rs2)
  have unsigned := s.xltu_readX_iff rs1 rs2
  have negated {b : Bool} {P : Prop} (h : b = true ↔ P) : (!b) = true ↔ ¬ P := by
    rw [Bool.not_eq_true', ← Bool.not_eq_true, h]
  exact ⟨s.pcRel_toNat (by decide) imm, branchesWhere_of_branch rfl eq, branchesWhere_of_branch rfl (negated eq),
    branchesWhere_of_branch rfl signed, branchesWhere_of_branch rfl ((negated signed).trans not_lt),
    branchesWhere_of_branch rfl unsigned, branchesWhere_of_branch rfl ((negated unsigned).trans not_lt)⟩

/-- Settles O17: both targets have `XLEN` bits, and `jumpLink` links before it transfers. -/
theorem jumpsLinkTheFollowingAddress : Obligations.JumpsLinkTheFollowingAddress := by
  unfold Obligations.JumpsLinkTheFollowingAddress
  intro s rd rs1 imm off link jump
  have jumps {i : Instr} {target : Word} (ht : xtrunc s.cfg.xlen target = target)
      (h : exec i s = s.jumpLink 4 rd target) : jump i target := by
    refine ⟨fun aligned => ?_, fun misaligned => h.trans (State.jump_of_misaligned misaligned _)⟩
    rw [h]
    exact s.jumpLink_linkedX 4 rd ht aligned
  exact ⟨s.pcRel_toNat (by decide) imm, s.jalrTarget_toNat rs1 off, jumps (s.pcRel_xtrunc imm) rfl,
    jumps (s.jalrTarget_xtrunc rs1 off) rfl⟩

end Sys2Proof.Machine
end

section
/-! The proofs of O19 and O21: loads and stores whose checks pass (R66, R142). -/

namespace Sys2Proof.Machine

/-! ### The values loaded -/

/-- A signed load of no more than `XLEN` bits keeps the signed value of its bytes (R142). -/
theorem xsigned_signedValue {x : Xlen} {n : Nat} (hn : 8 * n ≤ x.bits) (v : Nat) :
    xsigned x (xtrunc x (signedValue x n v)) = (v : Int).bmod (2 ^ (8 * n)) := by
  rw [signedValue, xsigned_xtrunc, xsigned_xsext hn, BitVec.toInt_ofNat']

/-- An unsigned load of a value of `XLEN` bits keeps it (R142). -/
theorem unsignedValue_toNat {x : Xlen} {v : Nat} (hv : v < 2 ^ x.bits) :
    (xtrunc x (unsignedValue x v)).toNat = v := by
  have hv64 : v < 2 ^ 64 := hv.trans_le (by cases x <;> decide)
  rw [unsignedValue, xzext, xtrunc_xtrunc, BitVec.setWidth_eq, xtrunc_toNat, BitVec.toNat_ofNat,
    Nat.mod_eq_of_lt hv64, Nat.mod_eq_of_lt hv]

section
variable {i : Instr} {s : State} {rd : RegIdx} {a : Word} {n : Nat}

/-- A signed load whose checks pass. -/
theorem completesX_of_loadSigned (ha : xtrunc s.cfg.xlen a = a) (hn : 8 * n ≤ s.cfg.xlen.bits)
    (h : exec i s = s.loadSigned 4 rd a n) (hacc : accessible s .read a n) :
    completesX i 4 s rd (fun v => xsigned s.cfg.xlen v = (s.readBytes a n : Int).bmod (2 ^ (8 * n))) :=
  completesX_of_finishX (h.trans (State.load_of_accessible ha hacc _)) (xsigned_signedValue hn _)

/-- An unsigned load whose checks pass. -/
theorem completesX_of_loadUnsigned (ha : xtrunc s.cfg.xlen a = a) (hn : 8 * n ≤ s.cfg.xlen.bits)
    (h : exec i s = s.loadUnsigned 4 rd a n) (hacc : accessible s .read a n) :
    completesX i 4 s rd (fun v => v.toNat = s.readBytes a n) :=
  have value_lt : s.readBytes a n < 2 ^ s.cfg.xlen.bits :=
    (s.readBytes_lt a n).trans_le (Nat.pow_le_pow_right (by decide) hn)
  completesX_of_finishX (h.trans (State.load_of_accessible ha hacc _)) (unsignedValue_toNat value_lt)

end

/-- Settles O19: four bytes fit in every register, eight in one of RV64. -/
theorem loadsWriteTheBytesAtTheEffectiveAddress : Obligations.LoadsWriteTheBytesAtTheEffectiveAddress := by
  unfold Obligations.LoadsWriteTheBytesAtTheEffectiveAddress
  intro s rd rs1 imm a signed unsigned
  have ha : xtrunc s.cfg.xlen a = a := s.ea_xtrunc rs1 imm
  have fits : 32 ≤ s.cfg.xlen.bits := by cases s.cfg.xlen <;> decide
  refine ⟨s.ea_toNat rs1 imm, completesX_of_loadSigned ha (by omega) rfl, completesX_of_loadSigned ha (by omega) rfl,
    completesX_of_loadSigned ha fits rfl, completesX_of_loadUnsigned ha (by omega) rfl,
    completesX_of_loadUnsigned ha (by omega) rfl, fun h64 => ?_⟩
  have fits64 : 8 * 8 ≤ s.cfg.xlen.bits := by rw [h64]; decide
  exact ⟨completesX_of_loadSigned ha fits64 rfl, completesX_of_loadUnsigned ha fits rfl⟩

/-- Settles O21: each of the four is `storeX` of its width at the effective address. -/
theorem storesWriteTheLowBytesOfTheSource : Obligations.StoresWriteTheLowBytesOfTheSource := by
  unfold Obligations.StoresWriteTheLowBytesOfTheSource
  intro s rs1 rs2 imm hwf a
  have stores {n : Nat} (hn : n ≤ 2 ^ 32) (hacc : accessible s .write a n) :=
    State.storeX_completes hwf (s.ea_xtrunc rs1 imm) hn hacc 4 rs2
  exact ⟨s.ea_toNat rs1 imm, stores (by decide), stores (by decide), stores (by decide), fun _ => stores (by decide)⟩

end Sys2Proof.Machine
end

section
/-! The proofs of O24 and O31: the fences, and the reads of the counters (R34 to R36). -/

namespace Sys2Proof.Machine

/-- Settles O24: retiring changes the pc and `instret` alone, and FENCE.I beside it only `stale`. -/
theorem fencesChangeNothingButTheStaleSet : Obligations.FencesChangeNothingButTheStaleSet := by
  unfold Obligations.FencesChangeNothingButTheStaleSet
  intro s pred succ ign1 ign2 ign3 ign quiet
  have fence : quiet (s.retire 4) :=
    ⟨s.retiredBy_retire 4, fun _ => rfl, fun _ => rfl, rfl, fun _ => rfl, rfl, rfl, rfl, rfl, rfl⟩
  have fenceI : quiet (State.retire { s with stale := [] } 4) :=
    ⟨s.retiredBy_retire 4, fun _ => rfl, fun _ => rfl, rfl, fun _ => rfl, rfl, rfl, rfl, rfl, rfl⟩
  exact ⟨⟨_, rfl, fence, rfl⟩, ⟨_, rfl, fenceI, rfl⟩⟩

/-! ### Draws -/

theorem le_umax_left (a b : BitVec 64) : a.toNat ≤ (umax a b).toNat := by
  unfold umax
  split
  · assumption
  · exact Nat.le_refl _

/-- A read of `cycle` delivers nothing smaller than the last one (R34). -/
theorem State.cycleLast_le_nextCycle (s : State) : s.cycleLast.toNat ≤ s.nextCycle.toNat := le_umax_left _ _

/-- A read of `time` delivers nothing smaller than the last one (R35). -/
theorem State.timeLast_le_nextTime (s : State) : s.timeLast.toNat ≤ s.nextTime.toNat := le_umax_left _ _

/-! ### The parts of a counter -/

/-- The upper half of a counter, as R198 reads it, has 32 bits. -/
theorem xtrunc_upperHalf (x : Xlen) (v : BitVec 64) :
    xtrunc x (v >>> 32) = BitVec.ofNat 64 (v.toNat / 2 ^ 32) := by
  have half : v.toNat / 2 ^ 32 < 2 ^ 32 := Nat.div_lt_of_lt_mul v.isLt
  have fits : 2 ^ 32 ≤ 2 ^ x.bits := Nat.pow_le_pow_right (by decide) (by cases x <;> decide)
  apply BitVec.eq_of_toNat_eq
  rw [xtrunc_toNat, BitVec.toNat_ushiftRight, Nat.shiftRight_eq_div_pow, BitVec.toNat_ofNat,
    Nat.mod_eq_of_lt (half.trans_le fits), Nat.mod_eq_of_lt (half.trans (by decide))]

/-! ### The counters that draw -/

theorem State.csrAt_cycle (s : State) : s.csrAt 0xC00#12 = some .cycle := State.csrAt_of_standard (by decide)

theorem State.csrAt_time (s : State) : s.csrAt 0xC01#12 = some .time := State.csrAt_of_standard (by decide)

theorem State.csrAt_cycleh {s : State} (h : s.cfg.xlen = .rv32) : s.csrAt 0xC80#12 = some .cycleh := by
  simp [State.csrAt_of_standard (show 0xC80#12 ∈ standardNumbers by decide), State.standardCsr, h]

theorem State.csrAt_timeh {s : State} (h : s.cfg.xlen = .rv32) : s.csrAt 0xC81#12 = some .timeh := by
  simp [State.csrAt_of_standard (show 0xC81#12 ∈ standardNumbers by decide), State.standardCsr, h]

/-- Only `x[rd]`, the pc, `instret` and what the counters last delivered may have changed: what a read of a
counter leaves alone. -/
def CounterReadFrame (rd : RegIdx) (s t : State) : Prop :=
  retiredBy 4 s t ∧ sameXBut rd s t ∧ sameF s t ∧ t.fcsr = s.fcsr ∧ sameMemory s t ∧ t.cfg = s.cfg ∧
    t.reservation = s.reservation ∧ t.extraCsrs = s.extraCsrs

/-- A read of a counter that draws: `x[rd]` takes the value read, and the counters' last values are those after
the draw. -/
theorem State.csrSet_counter {s u : State} {n : BitVec 12} {c : Csr} {v : Word} (hc : s.csrAt n = some c)
    (hread : s.csrRead c = (v, u)) (hdraw : u = s.drawCycle ∨ u = s.drawTime) (i : Instr) (rd : RegIdx) :
    ∃ t, s.csrSet i rd n 0#5 0#64 = .next t ∧ CounterReadFrame rd s t ∧ t.cycleLast = u.cycleLast ∧
      t.timeLast = u.timeLast ∧ t.readX rd = if rd = 0#5 then 0#64 else xtrunc s.cfg.xlen v := by
  have read : s.csrSet i rd n 0#5 0#64 = u.finishX 4 rd v := by rw [State.csrSet_read hc, hread]
  rw [read]
  obtain rfl | rfl := hdraw
  all_goals
    obtain ⟨t, hnext, hret, hx, hother, hf, hfcsr, hmem, hcfg, hres, hextra, hcycle, htime⟩ :=
      State.finishX_wroteX _ 4 rd v
    exact ⟨t, hnext, ⟨hret, hother, hf, hfcsr, hmem, hcfg, hres, hextra⟩, hcycle, htime, hx⟩

section
variable {i : Instr} {s : State} {n : BitVec 12} {c : Csr} {v : Word} {rd : RegIdx} {part : BitVec 64 → Word}

/-- `exec i` delivers a part of `cycle` in `x[rd]`, whose value is free but for R34's bound. -/
def DeliversCycle (i : Instr) (s : State) (rd : RegIdx) (part : BitVec 64 → Word) : Prop :=
  ∃ t, exec i s = .next t ∧ CounterReadFrame rd s t ∧ t.timeLast = s.timeLast ∧
    s.cycleLast.toNat ≤ t.cycleLast.toNat ∧ t.readX rd = if rd = 0#5 then 0#64 else part t.cycleLast

/-- `exec i` delivers a part of `time` in `x[rd]`, whose value is free but for R35's bound. -/
def DeliversTime (i : Instr) (s : State) (rd : RegIdx) (part : BitVec 64 → Word) : Prop :=
  ∃ t, exec i s = .next t ∧ CounterReadFrame rd s t ∧ t.cycleLast = s.cycleLast ∧
    s.timeLast.toNat ≤ t.timeLast.toNat ∧ t.readX rd = if rd = 0#5 then 0#64 else part t.timeLast

theorem deliversCycle_of_csrSet (hc : s.csrAt n = some c) (hread : s.csrRead c = (v, s.drawCycle))
    (hpart : xtrunc s.cfg.xlen v = part s.nextCycle) (h : exec i s = s.csrSet i rd n 0#5 0#64) :
    DeliversCycle i s rd part := by
  obtain ⟨t, hnext, hframe, hcycle, htime, hx⟩ := State.csrSet_counter hc hread (.inl rfl) i rd
  rw [State.drawCycle_cycleLast] at hcycle
  refine ⟨t, h.trans hnext, hframe, htime, ?_, ?_⟩
  · exact hcycle ▸ s.cycleLast_le_nextCycle
  · rw [hx, hpart, hcycle]

theorem deliversTime_of_csrSet (hc : s.csrAt n = some c) (hread : s.csrRead c = (v, s.drawTime))
    (hpart : xtrunc s.cfg.xlen v = part s.nextTime) (h : exec i s = s.csrSet i rd n 0#5 0#64) :
    DeliversTime i s rd part := by
  obtain ⟨t, hnext, hframe, hcycle, htime, hx⟩ := State.csrSet_counter hc hread (.inr rfl) i rd
  rw [State.drawTime_timeLast] at htime
  refine ⟨t, h.trans hnext, hframe, hcycle, ?_, ?_⟩
  · exact htime ▸ s.timeLast_le_nextTime
  · rw [hx, hpart, htime]

end

/-- Settles O31: every form is CSRRS with `x0` on its counter; `instret` is read without a draw. -/
theorem counterReadsDeliverTheCounters : Obligations.CounterReadsDeliverTheCounters := by
  unfold Obligations.CounterReadsDeliverTheCounters
  intro s rd low high others cycle time
  have low_cut (v : BitVec 64) : xtrunc s.cfg.xlen (low v) = low v := xtrunc_xtrunc _ _
  have high_cut := xtrunc_upperHalf s.cfg.xlen
  refine ⟨deliversCycle_of_csrSet s.csrAt_cycle rfl (low_cut _) rfl,
    deliversTime_of_csrSet s.csrAt_time rfl (low_cut _) rfl,
    completesX_of_finishX (State.csrSet_read s.csrAt_instret (.rdinstret rd) rd _) (low_cut _), fun h32 => ?_⟩
  exact ⟨deliversCycle_of_csrSet (State.csrAt_cycleh h32) rfl (high_cut _) rfl,
    deliversTime_of_csrSet (State.csrAt_timeh h32) rfl (high_cut _) rfl,
    completesX_of_finishX (State.csrSet_read (State.csrAt_instreth h32) (.rdinstreth rd) rd _) (high_cut _)⟩

end Sys2Proof.Machine
end

section
/-! The proofs of O29, O26 and O27: the law of CSR instructions (R220) where it traps and where it completes, what
`fflags`, `frm` and `fcsr` hold (R37 to R39), and the privileged instructions (R229 to R235). -/

namespace Sys2Proof.Machine

/-! ### The law of CSR instructions -/

section
variable {s : State} {n : BitVec 12} {c : Csr} {old : Word}

/-- Steps 1 to 3 of R220: a CSR that is absent, or a write to a read-only one, is illegal. -/
theorem State.csrLaw_illegal {writes : Bool} (h : s.csrAt n = none ∨ (csrReadOnly n = true ∧ writes = true))
    (i : Instr) (rd : RegIdx) (reads : Bool) (new : Word → Word) :
    s.csrLaw i rd n reads writes new = .fault (.illegalInstruction (encode i).zext) := by
  obtain habsent | ⟨hro, hwrites⟩ := h
  · simp [State.csrLaw, habsent, raiseIllegal, raise]
  · cases hc : s.csrAt n <;> simp [State.csrLaw, hc, hro, hwrites, raiseIllegal, raise]

/-- A swap on a CSR that is read without an effect: the read it leaves out is the one that `x0` would discard. -/
theorem State.csrSwap_of_pureRead (hc : s.csrAt n = some c) (hread : s.csrRead c = (old, s))
    (hro : csrReadOnly n = false) (i : Instr) (rd : RegIdx) (v : Word) :
    s.csrSwap i rd n v = (s.csrWrite c v).finishX 4 rd old := by
  by_cases hrd : rd = 0#5
  · simp [State.csrSwap, State.csrLaw, hc, hro, State.csrAccess, State.finishX, hrd, State.writeX_zero]
  · simp [State.csrSwap, State.csrLaw, hc, hro, State.csrAccess, State.finishX, hrd, hread]

/-- The forms that set or clear bits, on a CSR that is read without an effect: they write where `writes`. -/
theorem State.csrLaw_of_pureRead (hc : s.csrAt n = some c) (hread : s.csrRead c = (old, s))
    (hro : csrReadOnly n = false) (i : Instr) (rd : RegIdx) (writes : Bool) (new : Word → Word) :
    s.csrLaw i rd n true writes new =
      (if writes then s.csrWrite c (new old) else s).finishX 4 rd old := by
  simp [State.csrLaw, hc, hro, State.csrAccess, State.finishX, hread]

end

/-! ### Where CSR instructions trap -/

/-- Settles O27: CSRRW and CSRRWI always write, the others where their field is not zero. -/
theorem csrInstructionsTrapOnAbsentOrReadOnly : Obligations.CsrInstructionsTrapOnAbsentOrReadOnly := by
  unfold Obligations.CsrInstructionsTrapOnAbsentOrReadOnly
  intro s rd rs1 csr zimm illegal readOnly
  have swap (h : s.csrAt csr = none ∨ readOnly) :
      s.csrAt csr = none ∨ (csrReadOnly csr = true ∧ true = true) :=
    h.imp_right fun hro => ⟨beq_iff_eq.2 hro, rfl⟩
  have field {z : BitVec 5} (h : s.csrAt csr = none ∨ (readOnly ∧ z ≠ 0#5)) :
      s.csrAt csr = none ∨ (csrReadOnly csr = true ∧ (z != 0#5) = true) :=
    h.imp_right fun ⟨hro, hz⟩ => ⟨beq_iff_eq.2 hro, bne_iff_ne.2 hz⟩
  exact ⟨fun h => ⟨State.csrLaw_illegal (swap h) _ _ _ _, State.csrLaw_illegal (swap h) _ _ _ _⟩,
    fun h => ⟨State.csrLaw_illegal (field h) _ _ _ _, State.csrLaw_illegal (field h) _ _ _ _⟩,
    fun h => ⟨State.csrLaw_illegal (field h) _ _ _ _, State.csrLaw_illegal (field h) _ _ _ _⟩⟩

/-! ### The floating-point status -/

/-- The rows of R33's table that are fields of `fcsr`, by number. -/
inductive Csr.InFcsr : BitVec 12 → Csr → Prop
  | fflags : Csr.InFcsr 1#12 .fflags
  | frm : Csr.InFcsr 2#12 .frm
  | fcsr : Csr.InFcsr 3#12 .fcsr

theorem Csr.inFcsr_of_mem {p : BitVec 12 × Csr}
    (hp : p ∈ [(1#12, Csr.fflags), (2#12, Csr.frm), (3#12, Csr.fcsr)]) : Csr.InFcsr p.1 p.2 := by
  simp only [List.mem_cons, List.not_mem_nil, or_false] at hp
  obtain rfl | rfl | rfl := hp
  · exact .fflags
  · exact .frm
  · exact .fcsr

/-- The register is its two fields (R37). -/
theorem fcsrOf_extract : ∀ v : BitVec 8, fcsrOf (v.extractLsb' 5 3) (v.extractLsb' 0 5) = v := by decide

theorem xtrunc_setWidth {m : Nat} (hm : m ≤ 32) (x : Xlen) (v : BitVec m) :
    xtrunc x (v.setWidth 64) = v.setWidth 64 := by
  cases x with
  | rv32 =>
    rw [xtrunc, BitVec.setWidth_setWidth_of_le v (by decide : 32 ≤ 64), BitVec.setWidth_setWidth (by omega)]
  | rv64 => rfl

section
variable {s : State} {n : BitVec 12} {c : Csr}

theorem State.csrAt_inFcsr (h : Csr.InFcsr n c) (hf : s.cfg.ext.f = true) : s.csrAt n = some c := by
  cases h <;> rw [State.csrAt_of_standard (by decide)] <;> simp [State.standardCsr, hf]

theorem csrReadOnly_inFcsr (h : Csr.InFcsr n c) : csrReadOnly n = false := by cases h <;> rfl

theorem State.csrRead_inFcsr (h : Csr.InFcsr n c) : s.csrRead c = (fpCsrValue s c, s) := by cases h <;> rfl

theorem State.csrWrite_inFcsr (h : Csr.InFcsr n c) (v : Word) :
    s.csrWrite c v = { s with fcsr := fpCsrAfter s v c } := by cases h <;> rfl

/-- No field is cut at `XLEN`. -/
theorem xtrunc_fpCsrValue (h : Csr.InFcsr n c) (x : Xlen) : xtrunc x (fpCsrValue s c) = fpCsrValue s c := by
  cases h <;> exact xtrunc_setWidth (by decide) x _

/-- Writing back the value read leaves `fcsr` as it was. -/
theorem fpCsrAfter_fpCsrValue (h : Csr.InFcsr n c) : fpCsrAfter s (fpCsrValue s c) c = s.fcsr := by
  have low {m : Nat} (hm : m ≤ 64) (v : BitVec m) : (v.setWidth 64).extractLsb' 0 m = v := by
    rw [BitVec.extractLsb'_setWidth_of_le (by omega), BitVec.extractLsb'_eq_self]
  cases h with
  | fflags => exact (congrArg (fcsrOf s.frm) (low (by decide) _)).trans (fcsrOf_extract _)
  | frm => exact (congrArg (fcsrOf · s.fflags) (low (by decide) _)).trans (fcsrOf_extract _)
  | fcsr => exact low (by decide) _

/-- A new value of `fcsr`, then the old value of the CSR to `x[rd]`. -/
theorem State.finishX_wroteCsr (h : Csr.InFcsr n c) (rd : RegIdx) (v : BitVec 8) :
    ∃ t, State.finishX { s with fcsr := v } 4 rd (fpCsrValue s c) = .next t ∧
      wroteCsr rd (fpCsrValue s c) v s t := by
  obtain ⟨t, hnext, hwrote⟩ := State.finishX_wroteX { s with fcsr := v } 4 rd (fpCsrValue s c)
  rw [xtrunc_fpCsrValue h] at hwrote
  exact ⟨t, hnext, hwrote⟩

/-- CSRRW and CSRRWI on the floating-point status. -/
theorem State.csrSwap_wroteCsr (h : Csr.InFcsr n c) (hf : s.cfg.ext.f = true) (i : Instr) (rd : RegIdx) (v : Word) :
    ∃ t, s.csrSwap i rd n v = .next t ∧ wroteCsr rd (fpCsrValue s c) (fpCsrAfter s v c) s t := by
  rw [State.csrSwap_of_pureRead (State.csrAt_inFcsr h hf) (State.csrRead_inFcsr h) (csrReadOnly_inFcsr h),
    State.csrWrite_inFcsr h]
  exact State.finishX_wroteCsr h rd _

/-- The forms that set or clear bits on the floating-point status: they write where `writes`, and otherwise keep
the old value. -/
theorem State.csrLaw_wroteCsr (h : Csr.InFcsr n c) (hf : s.cfg.ext.f = true) (i : Instr) (rd : RegIdx)
    {writes : Bool} {new : Word → Word} (hkeep : writes = false → new (fpCsrValue s c) = fpCsrValue s c) :
    ∃ t, s.csrLaw i rd n true writes new = .next t ∧
      wroteCsr rd (fpCsrValue s c) (fpCsrAfter s (new (fpCsrValue s c)) c) s t := by
  rw [State.csrLaw_of_pureRead (State.csrAt_inFcsr h hf) (State.csrRead_inFcsr h) (csrReadOnly_inFcsr h)]
  cases writes with
  | false =>
    rw [hkeep rfl, fpCsrAfter_fpCsrValue h]
    exact State.finishX_wroteCsr h rd s.fcsr
  | true =>
    rw [if_pos rfl, State.csrWrite_inFcsr h]
    exact State.finishX_wroteCsr h rd _

/-- A zero field asks for no write, and its operand would set no bit. -/
theorem State.csrSet_wroteCsr (h : Csr.InFcsr n c) (hf : s.cfg.ext.f = true) (i : Instr) (rd : RegIdx)
    {field : BitVec 5} {v : Word} (hv : field = 0#5 → v = 0#64) :
    ∃ t, s.csrSet i rd n field v = .next t ∧
      wroteCsr rd (fpCsrValue s c) (fpCsrAfter s (fpCsrValue s c ||| v) c) s t :=
  State.csrLaw_wroteCsr h hf i rd fun hz => by rw [hv (by simpa using hz), BitVec.or_zero]

theorem State.csrClear_wroteCsr (h : Csr.InFcsr n c) (hf : s.cfg.ext.f = true) (i : Instr) (rd : RegIdx)
    {field : BitVec 5} {v : Word} (hv : field = 0#5 → v = 0#64) :
    ∃ t, s.csrClear i rd n field v = .next t ∧
      wroteCsr rd (fpCsrValue s c) (fpCsrAfter s (fpCsrValue s c &&& ~~~v) c) s t :=
  State.csrLaw_wroteCsr h hf i rd fun hz => by
    rw [hv (by simpa using hz)]
    exact BitVec.and_allOnes

end

/-- Settles O29: the law of CSR instructions on the fields of `fcsr`, with the operand of each form. -/
theorem csrInstructionsOnTheFloatingPointStatus : Obligations.CsrInstructionsOnTheFloatingPointStatus := by
  unfold Obligations.CsrInstructionsOnTheFloatingPointStatus
  intro s rd rs1 zimm hf p hp old writes
  have row := Csr.inFcsr_of_mem hp
  have zero_of_rs1 : rs1 = 0#5 → s.readX rs1 = 0#64 := fun h => h ▸ s.readX_zero
  have zero_of_zimm : zimm = 0#5 → zimm.setWidth 64 = 0#64 := fun h => h ▸ rfl
  exact ⟨State.csrSwap_wroteCsr row hf _ rd _, State.csrSet_wroteCsr row hf _ rd zero_of_rs1,
    State.csrClear_wroteCsr row hf _ rd zero_of_rs1, State.csrSwap_wroteCsr row hf _ rd _,
    State.csrSet_wroteCsr row hf _ rd zero_of_zimm, State.csrClear_wroteCsr row hf _ rd zero_of_zimm⟩

/-! ### Privileged instructions -/

theorem execWfi_of_refuse {s : State} (h : s.cfg.wfiMode = .refuse) : execWfi s = .refused (.privileged "WFI") := by
  simp [execWfi, h, refusePrivileged]

theorem execWfi_of_nop {s : State} (h : s.cfg.wfiMode = .nop) : execWfi s = .next (s.retire 4) := by
  simp [execWfi, h]

/-- Settles O26: each is refused by its name, and WFI goes by `WFI_MODE`. -/
theorem privilegedInstructionsAreRefused : Obligations.PrivilegedInstructionsAreRefused := by
  unfold Obligations.PrivilegedInstructionsAreRefused
  intro s rs1
  refine ⟨rfl, rfl, rfl, rfl, rfl, execWfi_of_refuse, fun hnop => ⟨_, execWfi_of_nop hnop, ?_⟩⟩
  exact ⟨s.retiredBy_retire 4, fun _ => rfl, fun _ => rfl, rfl, sameMemory_refl _, rfl, rfl, rfl, rfl, rfl⟩

end Sys2Proof.Machine
end

section
/-! The proof of O57: the operations that instructions share differ with the instruction's length in the pc step
alone (R250), and the operands of a compressed instruction are those of its equivalent (R251). -/

namespace Sys2Proof.Machine

/-! ### The operands -/

/-- A three-bit register field denotes `x8` to `x15` (R24). -/
theorem ofNat_eq_wideReg : (fun q : RegIdx3 => BitVec.ofNat 5 (8 + q.toNat)) = wideReg := by
  funext q
  decide +revert

/-- An unsigned offset is positive as a 12-bit immediate (R251). -/
theorem msb_setWidth_twelve {n : Nat} (hn : n < 12) (v : BitVec n) : (v.setWidth 12).msb = false := by
  rw [BitVec.msb_setWidth, BitVec.getLsbD_of_ge v _ (by omega), Bool.and_false]

theorem xsext_setWidth_twelve {n : Nat} (hn : n < 12) (x : Xlen) (v : BitVec n) :
    xsext x (v.setWidth 12) = xzext x v := by
  rw [xsext, xzext, BitVec.signExtend_eq_setWidth_of_msb_false (msb_setWidth_twelve hn v),
    BitVec.setWidth_setWidth (by omega)]

/-- Sign extension in two steps. -/
theorem signExtend_signExtend {n m : Nat} (hnm : n ≤ m) (k : Nat) (v : BitVec n) :
    (v.signExtend m).signExtend k = v.signExtend k :=
  congrArg (BitVec.ofInt k) (BitVec.toInt_signExtend_of_le hnm)

theorem xsext_signExtend {n m : Nat} (hnm : n ≤ m) (x : Xlen) (v : BitVec n) :
    xsext x (v.signExtend m) = xsext x v := congrArg (xtrunc x) (signExtend_signExtend hnm 64 v)

/-- The address of a compressed access is the effective address of its equivalent (R250, R142). -/
theorem State.ea_setWidth_eq_eaU {n : Nat} (hn : n < 12) (s : State) (rs1 : RegIdx) (uimm : BitVec n) :
    s.ea rs1 (uimm.setWidth 12) = s.eaU rs1 uimm := by
  rw [State.ea, State.eaU, xsext_setWidth_twelve hn]

/-- C.LUI's field at bits 17:12, sign-extended, is LUI's immediate (R269). -/
theorem immU_signExtend (x : Xlen) (imm : BitVec 6) : immU x (imm.signExtend 20) = xsext x (place 18 12 imm) := by
  have placed : place 32 12 (imm.signExtend 20) = (place 18 12 imm).signExtend 32 := by decide +revert
  rw [immU, placed, xsext_signExtend (by decide)]

/-! ### The shared operations at two bytes and at four -/

/-- `i` has the outcome of `j` but for the pc step of 2 (R250). -/
def RunsAs (s : State) (i j : Instr) : Prop := exec i s = twoBytesLong s (exec j s)

section
variable {s : State} {i j : Instr} {rd : RegIdx}

/-- The pc is all that `retire` does with the length. -/
theorem State.next_retire_two {u : State} (hpc : u.pc = s.pc) (hcfg : u.cfg = s.cfg) :
    Host.Outcome.next (u.retire 2) = twoBytesLong s (.next (u.retire 4)) := by
  simp only [twoBytesLong, State.retire, hpc, hcfg]

theorem State.finishX_two (s : State) (rd : RegIdx) (v : Word) :
    s.finishX 2 rd v = twoBytesLong s (s.finishX 4 rd v) :=
  State.next_retire_two (s.writeX_pc rd v) (s.writeX_cfg rd v)

theorem State.finishF_two (s : State) (m : Fmt) (rd : RegIdx) (r : FWord × FFlags) :
    s.finishF 2 m rd r = twoBytesLong s (s.finishF 4 m rd r) :=
  State.next_retire_two (s.writeBoxed_pc m rd r.1) (s.writeBoxed_cfg m rd r.1)

/-- The checks of a load do not depend on what follows it. -/
theorem State.load_two {a : Word} {n : Nat} {k k' : Nat → Res} (hk : ∀ v, k v = twoBytesLong s (k' v)) :
    s.load a n k = twoBytesLong s (s.load a n k') := by
  unfold State.load
  split
  · rfl
  · split
    · exact hk _
    · rfl

theorem State.store_two (s : State) (a : Word) (n v : Nat) :
    s.store a n v (fun u => .next (u.retire 2)) = twoBytesLong s (s.store a n v fun u => .next (u.retire 4)) := by
  unfold State.store
  split
  · rfl
  · split
    · exact State.next_retire_two (s.writeBytes_pc a v n) (s.writeBytes_cfg a v n)
    · rfl

/-! ### From the operations to the instructions -/

theorem runsAs_of_finishX {v w : Word} (hi : exec i s = s.finishX 2 rd v) (hj : exec j s = s.finishX 4 rd w)
    (h : w = v) : RunsAs s i j := by
  rw [RunsAs, hi, hj, h, State.finishX_two]

section
variable {k n : Nat} {m : Fmt} {rs1 rs2 : RegIdx} {uimm : BitVec k}

theorem runsAs_of_loadSigned (hk : k < 12) (hi : exec i s = s.loadSigned 2 rd (s.eaU rs1 uimm) n)
    (hj : exec j s = s.loadSigned 4 rd (s.ea rs1 (uimm.setWidth 12)) n) : RunsAs s i j := by
  rw [RunsAs, hi, hj, State.ea_setWidth_eq_eaU hk]
  exact State.load_two fun _ => s.finishX_two _ _

theorem runsAs_of_loadF (hk : k < 12) (hi : exec i s = s.loadF 2 m rd (s.eaU rs1 uimm))
    (hj : exec j s = s.loadF 4 m rd (s.ea rs1 (uimm.setWidth 12))) : RunsAs s i j := by
  rw [RunsAs, hi, hj, State.ea_setWidth_eq_eaU hk]
  exact State.load_two fun _ => s.finishF_two _ _ _

theorem runsAs_of_storeX (hk : k < 12) (hi : exec i s = s.storeX 2 (s.eaU rs1 uimm) rs2 n)
    (hj : exec j s = s.storeX 4 (s.ea rs1 (uimm.setWidth 12)) rs2 n) : RunsAs s i j := by
  rw [RunsAs, hi, hj, State.ea_setWidth_eq_eaU hk]
  exact s.store_two _ _ _

theorem runsAs_of_storeF (hk : k < 12) (hi : exec i s = s.storeF 2 m (s.eaU rs1 uimm) rs2)
    (hj : exec j s = s.storeF 4 m (s.ea rs1 (uimm.setWidth 12)) rs2) : RunsAs s i j := by
  rw [RunsAs, hi, hj, State.ea_setWidth_eq_eaU hk]
  exact s.store_two _ _ _

end

end

/-! ### The equivalents of 42_compressed.md -/

section
variable (s : State) (rd rs2 : RegIdx) (r r' : RegIdx3) (u7 : BitVec 7) (u8 : BitVec 8) (u9 : BitVec 9)
  (imm shamt : BitVec 6) (imm10 u10 : BitVec 10)

theorem cLw_runsAs : RunsAs s (.cLw r r' u7) (.lw (wideReg r) (wideReg r') (u7.setWidth 12)) :=
  runsAs_of_loadSigned (by decide) rfl rfl
theorem cLwsp_runsAs : RunsAs s (.cLwsp rd u8) (.lw rd 2#5 (u8.setWidth 12)) :=
  runsAs_of_loadSigned (by decide) rfl rfl
theorem cLd_runsAs : RunsAs s (.cLd r r' u8) (.ld (wideReg r) (wideReg r') (u8.setWidth 12)) :=
  runsAs_of_loadSigned (by decide) rfl rfl
theorem cLdsp_runsAs : RunsAs s (.cLdsp rd u9) (.ld rd 2#5 (u9.setWidth 12)) :=
  runsAs_of_loadSigned (by decide) rfl rfl
theorem cSw_runsAs : RunsAs s (.cSw r r' u7) (.sw (wideReg r) (wideReg r') (u7.setWidth 12)) :=
  runsAs_of_storeX (by decide) rfl rfl
theorem cSwsp_runsAs : RunsAs s (.cSwsp rs2 u8) (.sw 2#5 rs2 (u8.setWidth 12)) := runsAs_of_storeX (by decide) rfl rfl
theorem cSd_runsAs : RunsAs s (.cSd r r' u8) (.sd (wideReg r) (wideReg r') (u8.setWidth 12)) :=
  runsAs_of_storeX (by decide) rfl rfl
theorem cSdsp_runsAs : RunsAs s (.cSdsp rs2 u9) (.sd 2#5 rs2 (u9.setWidth 12)) := runsAs_of_storeX (by decide) rfl rfl
theorem cFlw_runsAs : RunsAs s (.cFlw r r' u7) (.flw (wideReg r) (wideReg r') (u7.setWidth 12)) :=
  runsAs_of_loadF (by decide) rfl rfl
theorem cFlwsp_runsAs : RunsAs s (.cFlwsp rd u8) (.flw rd 2#5 (u8.setWidth 12)) := runsAs_of_loadF (by decide) rfl rfl
theorem cFld_runsAs : RunsAs s (.cFld r r' u8) (.fld (wideReg r) (wideReg r') (u8.setWidth 12)) :=
  runsAs_of_loadF (by decide) rfl rfl
theorem cFldsp_runsAs : RunsAs s (.cFldsp rd u9) (.fld rd 2#5 (u9.setWidth 12)) := runsAs_of_loadF (by decide) rfl rfl
theorem cFsw_runsAs : RunsAs s (.cFsw r r' u7) (.fsw (wideReg r) (wideReg r') (u7.setWidth 12)) :=
  runsAs_of_storeF (by decide) rfl rfl
theorem cFswsp_runsAs : RunsAs s (.cFswsp rs2 u8) (.fsw 2#5 rs2 (u8.setWidth 12)) :=
  runsAs_of_storeF (by decide) rfl rfl
theorem cFsd_runsAs : RunsAs s (.cFsd r r' u8) (.fsd (wideReg r) (wideReg r') (u8.setWidth 12)) :=
  runsAs_of_storeF (by decide) rfl rfl
theorem cFsdsp_runsAs : RunsAs s (.cFsdsp rs2 u9) (.fsd 2#5 rs2 (u9.setWidth 12)) :=
  runsAs_of_storeF (by decide) rfl rfl

theorem cAdd_runsAs : RunsAs s (.cAdd rd rs2) (.add rd rd rs2) := runsAs_of_finishX rfl rfl rfl
theorem cAddw_runsAs : RunsAs s (.cAddw r r') (.addw (wideReg r) (wideReg r) (wideReg r')) :=
  runsAs_of_finishX rfl rfl rfl
theorem cAddi_runsAs : RunsAs s (.cAddi rd imm) (.addi rd rd (imm.signExtend 12)) :=
  runsAs_of_finishX rfl rfl (by rw [xsext_signExtend (by decide)])
theorem cNop_runsAs : RunsAs s .cNop (.addi 0#5 0#5 0#12) :=
  runsAs_of_finishX rfl rfl (by rw [← xsext_signExtend (show 6 ≤ 12 by decide) _ 0#6]; rfl)
theorem cAddiw_runsAs : RunsAs s (.cAddiw rd imm) (.addiw rd rd (imm.signExtend 12)) :=
  runsAs_of_finishX rfl rfl (by rw [signExtend_signExtend (by decide)])
theorem cAddi16sp_runsAs : RunsAs s (.cAddi16sp imm10) (.addi 2#5 2#5 (imm10.signExtend 12)) :=
  runsAs_of_finishX rfl rfl (by rw [xsext_signExtend (by decide)]; rfl)
theorem cAddi4spn_runsAs : RunsAs s (.cAddi4spn r u10) (.addi (wideReg r) 2#5 (u10.setWidth 12)) :=
  runsAs_of_finishX rfl rfl (by rw [xsext_setWidth_twelve (by decide)]; rfl)
theorem cLi_runsAs : RunsAs s (.cLi rd imm) (.addi rd 0#5 (imm.signExtend 12)) :=
  runsAs_of_finishX rfl rfl (by rw [xsext_signExtend (by decide)])
theorem cLui_runsAs : RunsAs s (.cLui rd imm) (.lui rd (imm.signExtend 20)) :=
  runsAs_of_finishX rfl rfl (immU_signExtend _ imm)
theorem cMv_runsAs : RunsAs s (.cMv rd rs2) (.add rd 0#5 rs2) := runsAs_of_finishX rfl rfl (BitVec.add_comm _ _)
theorem cSub_runsAs : RunsAs s (.cSub r r') (.sub (wideReg r) (wideReg r) (wideReg r')) :=
  runsAs_of_finishX rfl rfl rfl
theorem cSubw_runsAs : RunsAs s (.cSubw r r') (.subw (wideReg r) (wideReg r) (wideReg r')) :=
  runsAs_of_finishX rfl rfl rfl
theorem cSlli_runsAs : RunsAs s (.cSlli rd shamt) (.slli rd rd shamt) := runsAs_of_finishX rfl rfl rfl
theorem cSrli_runsAs : RunsAs s (.cSrli r shamt) (.srli (wideReg r) (wideReg r) shamt) :=
  runsAs_of_finishX rfl rfl rfl
theorem cSrai_runsAs : RunsAs s (.cSrai r shamt) (.srai (wideReg r) (wideReg r) shamt) :=
  runsAs_of_finishX rfl rfl rfl
theorem cAndi_runsAs : RunsAs s (.cAndi r imm) (.andi (wideReg r) (wideReg r) (imm.signExtend 12)) :=
  runsAs_of_finishX rfl rfl (by rw [xsext_signExtend (by decide)])
theorem cXor_runsAs : RunsAs s (.cXor r r') (.xor (wideReg r) (wideReg r) (wideReg r')) :=
  runsAs_of_finishX rfl rfl rfl
theorem cOr_runsAs : RunsAs s (.cOr r r') (.or (wideReg r) (wideReg r) (wideReg r')) := runsAs_of_finishX rfl rfl rfl
theorem cAnd_runsAs : RunsAs s (.cAnd r r') (.and (wideReg r) (wideReg r) (wideReg r')) :=
  runsAs_of_finishX rfl rfl rfl

end

/-- Settles O57: each instruction and its equivalent end in the same operation over the same operands. -/
theorem compressedInstructionsRunAsTheirEquivalents : Obligations.CompressedInstructionsRunAsTheirEquivalents := by
  unfold Obligations.CompressedInstructionsRunAsTheirEquivalents
  intro s rd rs2 r r' u7 u8 u9 u10 imm imm10 shamt x same
  have hx : x = wideReg := ofNat_eq_wideReg
  clear_value x
  subst hx
  exact ⟨cLw_runsAs s r r' u7, cLwsp_runsAs s rd u8, cLd_runsAs s r r' u8, cLdsp_runsAs s rd u9,
    cSw_runsAs s r r' u7, cSwsp_runsAs s rs2 u8, cSd_runsAs s r r' u8, cSdsp_runsAs s rs2 u9,
    cFlw_runsAs s r r' u7, cFlwsp_runsAs s rd u8, cFld_runsAs s r r' u8, cFldsp_runsAs s rd u9,
    cFsw_runsAs s r r' u7, cFswsp_runsAs s rs2 u8, cFsd_runsAs s r r' u8, cFsdsp_runsAs s rs2 u9,
    cAdd_runsAs s rd rs2, cAddw_runsAs s r r', cAddi_runsAs s rd imm, cNop_runsAs s, cAddiw_runsAs s rd imm,
    cAddi16sp_runsAs s imm10, cAddi4spn_runsAs s r u10, cLi_runsAs s rd imm, cLui_runsAs s rd imm,
    cMv_runsAs s rd rs2, cSub_runsAs s r r', cSubw_runsAs s r r', cSlli_runsAs s rd shamt,
    cSrli_runsAs s r shamt, cSrai_runsAs s r shamt, cAndi_runsAs s r imm, cXor_runsAs s r r', cOr_runsAs s r r',
    cAnd_runsAs s r r'⟩

end Sys2Proof.Machine
end

section
/-! The proof of O58: what a 32-bit instruction completes with (O10 to O15), the compressed one that runs as it
completes with too (R250). -/

namespace Sys2Proof.Machine

/-! ### Statements carried over from the equivalent -/

section
variable {s t : State} {i j : Instr}

/-- The state the equivalent leaves, but for the pc (R250). -/
theorem RunsAs.exec_eq (h : RunsAs s i j) (hj : exec j s = .next t) :
    exec i s = .next { t with pc := xtrunc s.cfg.xlen (s.pc + 2#64) } := by
  rw [h, hj]
  rfl

theorem retiredBy_two (h : retiredBy 4 s t) :
    retiredBy 2 s { t with pc := xtrunc s.cfg.xlen (s.pc + 2#64) } :=
  ⟨byteAddr_eq s.cfg.xlen s.pc 2, h.2⟩

theorem completesX_of_runsAs {rd : RegIdx} {P : Word → Prop} (h : RunsAs s i j) (hj : completesX j 4 s rd P) :
    completesX i 2 s rd P := by
  obtain ⟨t, v, hnext, ⟨hret, hframe⟩, hP⟩ := hj
  exact ⟨_, v, h.exec_eq hnext, ⟨retiredBy_two hret, hframe⟩, hP⟩

/-- What holds of every result that `P` holds of may be said in its place. -/
theorem completesX_mono {n : Nat} {rd : RegIdx} {P Q : Word → Prop} (hi : completesX i n s rd P)
    (hPQ : ∀ v, P v → Q v) : completesX i n s rd Q := by
  obtain ⟨t, v, hnext, hwrote, hP⟩ := hi
  exact ⟨t, v, hnext, hwrote, hPQ v hP⟩

theorem completesF_of_runsAs {m : Fmt} {rd : RegIdx} {r : FWord × FFlags} (h : RunsAs s i j)
    (hj : completesF j 4 s m rd r) : completesF i 2 s m rd r := by
  obtain ⟨t, hnext, hret, hframe⟩ := hj
  exact ⟨_, h.exec_eq hnext, retiredBy_two hret, hframe⟩

theorem completesStore_of_runsAs {a : Word} {n v : Nat} (h : RunsAs s i j) (hj : completesStore j 4 s a n v) :
    completesStore i 2 s a n v := by
  obtain ⟨t, hnext, hret, hframe⟩ := hj
  exact ⟨_, h.exec_eq hnext, retiredBy_two hret, hframe⟩

end

/-! ### The operands as numbers -/

@[simp] theorem State.ux_zero (s : State) : s.ux 0#5 = 0 := congrArg BitVec.toNat s.readX_zero

theorem toInt_setWidth_twelve {n : Nat} (hn : n < 12) (v : BitVec n) : (v.setWidth 12).toInt = v.toNat := by
  rw [BitVec.toInt_eq_toNat_of_msb (msb_setWidth_twelve hn v), BitVec.toNat_setWidth_of_le (by omega)]

/-- The bits of a 6-bit immediate sign-extended to 12 are those that go on sign-extended from 6. -/
theorem bit_signExtend_twelve (imm : BitVec 6) (k : Nat) :
    (if k < 12 then (imm.signExtend 12).getLsbD k else (imm.signExtend 12).msb) =
      if k < 6 then imm.getLsbD k else imm.msb := by
  rw [BitVec.msb_signExtend, BitVec.getLsbD_signExtend]
  by_cases h6 : k < 6
  · have h12 : k < 12 := by omega
    simp [h6, h12]
  · simp +contextual [h6]

/-! ### Sums -/

section
variable {s : State} {i : Instr} {rd rs1 rs2 : RegIdx} {imm : BitVec 12} {r : Int}

theorem completesX_of_runsAs_add (h : RunsAs s i (.add rd rs1 rs2)) (hr : (s.ux rs1 : Int) + s.ux rs2 = r) :
    completesX i 2 s rd (fun v => (v.toNat : Int) = r % s.modulus) := by
  obtain ⟨add, -, -⟩ := additionIsModuloTheRegisterWidth s rd rs1 rs2 0#12
  refine completesX_mono (completesX_of_runsAs h add) fun v hv => ?_
  rw [hv, ← hr]
  push_cast
  rfl

theorem completesX_of_runsAs_addi (h : RunsAs s i (.addi rd rs1 imm)) (hr : s.ux rs1 + imm.toInt = r) :
    completesX i 2 s rd (fun v => (v.toNat : Int) = r % s.modulus) := by
  obtain ⟨-, addi, -⟩ := additionIsModuloTheRegisterWidth s rd rs1 0#5 imm
  exact hr ▸ completesX_of_runsAs h addi

end

/-- Settles O58, from what O10 to O13 and O15 say of the equivalents. -/
theorem compressedArithmeticCompletes : Obligations.CompressedArithmeticCompletes := by
  unfold Obligations.CompressedArithmeticCompletes
  intro s rd rs2 r r' imm imm10 u10 shamt x modulo word
  have hx : x = wideReg := ofNat_eq_wideReg
  clear_value x
  subst hx
  have imm_toInt {m : Nat} (hm : 6 ≤ m) : (imm.signExtend m).toInt = imm.toInt := BitVec.toInt_signExtend_of_le hm
  obtain ⟨-, -, sub⟩ := additionIsModuloTheRegisterWidth s (wideReg r) (wideReg r) (wideReg r') 0#12
  obtain ⟨lui, -⟩ := upperImmediatesArePlacedAtBitTwelve s rd (imm.signExtend 20)
  obtain ⟨xor, -, or, -, and, andi⟩ :=
    logicalInstructionsWorkBitByBit s (wideReg r) (wideReg r) (wideReg r') (imm.signExtend 12)
  refine ⟨⟨?add, ?addi, ?addi16sp, ?addi4spn, ?li, ?lui, ?mv, ?sub, ?nop⟩, fun h64 => ?words,
    fun hshamt => ?shifts, ?andi, ?xor, ?or, ?and⟩
  case add => exact completesX_of_runsAs_add (cAdd_runsAs s rd rs2) rfl
  case addi =>
    refine completesX_of_runsAs_addi (cAddi_runsAs s rd imm) ?_
    rw [imm_toInt (by decide)]
  case addi16sp =>
    refine completesX_of_runsAs_addi (cAddi16sp_runsAs s imm10) ?_
    rw [BitVec.toInt_signExtend_of_le (by decide)]
  case addi4spn =>
    refine completesX_of_runsAs_addi (cAddi4spn_runsAs s r u10) ?_
    rw [toInt_setWidth_twelve (by decide), Int.natCast_add]
  case li =>
    refine completesX_of_runsAs_addi (cLi_runsAs s rd imm) ?_
    rw [imm_toInt (by decide), s.ux_zero, Int.natCast_zero, Int.zero_add]
  case lui =>
    rw [imm_toInt (by decide)] at lui
    exact completesX_of_runsAs (cLui_runsAs s rd imm) lui
  case mv =>
    refine completesX_of_runsAs_add (cMv_runsAs s rd rs2) ?_
    rw [s.ux_zero, Int.natCast_zero, Int.zero_add]
  case sub => exact completesX_of_runsAs (cSub_runsAs s r r') sub
  case nop =>
    refine completesX_of_runsAs_addi (cNop_runsAs s) ?_
    rw [s.ux_zero]
    rfl
  case words =>
    obtain ⟨addw, -, subw, -⟩ :=
      wordFormsSignExtendTheirResult s (wideReg r) (wideReg r) (wideReg r') 0#12 0#5 h64
    obtain ⟨-, addiw, -⟩ := wordFormsSignExtendTheirResult s rd rd 0#5 (imm.signExtend 12) 0#5 h64
    rw [imm_toInt (by decide)] at addiw
    exact ⟨completesX_of_runsAs (cAddw_runsAs s r r') addw,
      completesX_of_runsAs (cAddiw_runsAs s rd imm) addiw,
      completesX_of_runsAs (cSubw_runsAs s r r') subw⟩
  case shifts =>
    obtain ⟨-, -, -, left⟩ := shiftsMultiplyAndDivideByPowersOfTwo s rd rd 0#5 shamt
    obtain ⟨-, -, -, right⟩ := shiftsMultiplyAndDivideByPowersOfTwo s (wideReg r) (wideReg r) 0#5 shamt
    obtain ⟨slli, -, -⟩ := left hshamt
    obtain ⟨-, srli, srai⟩ := right hshamt
    exact ⟨completesX_mono (completesX_of_runsAs (cSlli_runsAs s rd shamt) slli) fun v hv => by exact_mod_cast hv,
      completesX_of_runsAs (cSrli_runsAs s r shamt) srli,
      completesX_of_runsAs (cSrai_runsAs s r shamt) srai⟩
  case andi =>
    refine completesX_mono (completesX_of_runsAs (cAndi_runsAs s r imm) andi) fun v hv k hk => ?_
    rw [← bit_signExtend_twelve]
    exact hv k hk
  case xor => exact completesX_of_runsAs (cXor_runsAs s r r') xor
  case or => exact completesX_of_runsAs (cOr_runsAs s r r') or
  case and => exact completesX_of_runsAs (cAnd_runsAs s r r') and

end Sys2Proof.Machine
end

section
/-! The proof of O59: a compressed access is at the effective address of its equivalent, the base register plus the
unsigned offset, and completes as the equivalent does (R250, R254). -/

namespace Sys2Proof.Machine

/-! ### The address -/

/-- An unsigned offset is added modulo 2^`XLEN` (R250, R142). -/
theorem State.ea_setWidth_eq_ofNat {n : Nat} (hn : n < 12) (s : State) (rs1 : RegIdx) (uimm : BitVec n) :
    s.ea rs1 (uimm.setWidth 12) = BitVec.ofNat 64 ((s.ux rs1 + uimm.toNat) % s.modulus) := by
  have sum := s.ea_toNat rs1 (uimm.setWidth 12)
  rw [toInt_setWidth_twelve hn] at sum
  have fits : (s.ux rs1 + uimm.toNat) % s.modulus < 2 ^ 64 :=
    (Nat.mod_lt _ (Nat.two_pow_pos _)).trans_le (Nat.pow_le_pow_right (by decide) (by cases s.cfg.xlen <;> decide))
  apply BitVec.eq_of_toNat_eq
  rw [BitVec.toNat_ofNat, Nat.mod_eq_of_lt fits]
  exact_mod_cast sum

/-! ### The equivalents of the floating-point accesses -/

theorem ftrunc_toNat (n : Nat) (v : FWord) : (ftrunc n v).toNat = v.toNat % 2 ^ n := by
  rw [ftrunc, BitVec.toNat_setWidth, BitVec.toNat_setWidth]
  exact Nat.mod_eq_of_lt ((Nat.mod_le _ _).trans_lt v.isLt)

section
variable {s : State} {i j : Instr} {rd rs1 rs2 : RegIdx} {a : Word} {n len : Nat} {m : Fmt} {imm : BitVec 12}

/-- A floating-point load whose checks pass, where `FLEN` has room for its format. -/
theorem completesF_of_loadF (hm : m.width ≤ s.cfg.flen) (ha : xtrunc s.cfg.xlen a = a)
    (h : exec i s = s.loadF len m rd a) (hacc : accessible s .read a (m.width / 8)) :
    completesF i len s m rd (BitVec.ofNat 128 (s.readBytes a (m.width / 8)), noFlags) :=
  completesF_of_finishF hm (h.trans (State.load_of_accessible ha hacc _))

/-- A store whose checks pass, of whatever value. -/
theorem completesStore_of_store {v : Nat} (hwf : s.mem.wf = true) (hn : n ≤ 2 ^ 32) (ha : xtrunc s.cfg.xlen a = a)
    (h : exec i s = s.store a n v fun u => .next (u.retire len)) (hacc : accessible s .write a n) :
    completesStore i len s a n v := by
  refine ⟨_, h.trans (State.store_of_accessible ha hacc _ _), ⟨?_, by simp⟩,
    State.storedBytes_writeBytes hwf a v hn, fun q => ?_, fun q => ?_, by simp, by simp [sameSystem]⟩
  · exact State.retire_pc_toNat (s.writeBytes_pc a v n) (s.writeBytes_cfg a v n) len
  · rw [State.readX_retire, State.readX_writeBytes]
  · rw [State.readF_retire, State.readF_writeBytes]

/-- A floating-point store whose checks pass: the low bits of the register (R381). -/
theorem completesStore_of_storeF (hwf : s.mem.wf = true) (ha : xtrunc s.cfg.xlen a = a)
    (h : exec i s = s.storeF len m a rs2) (hacc : accessible s .write a (m.width / 8)) :
    completesStore i len s a (m.width / 8) ((s.readF rs2).toNat % 2 ^ m.width) := by
  rw [← ftrunc_toNat]
  exact completesStore_of_store hwf (by cases m <;> decide) ha h hacc

/-! ### From the equivalents to the compressed accesses -/

theorem completesX_of_runsAs_load (h : RunsAs s i j) (ha : s.ea rs1 imm = a)
    (hj : exec j s = s.loadSigned 4 rd (s.ea rs1 imm) n) (hn : 8 * n ≤ s.cfg.xlen.bits)
    (hacc : accessible s .read a n) :
    completesX i 2 s rd (fun v => xsigned s.cfg.xlen v = (s.readBytes a n : Int).bmod (2 ^ (8 * n))) := by
  subst ha
  exact completesX_of_runsAs h (completesX_of_loadSigned (s.ea_xtrunc rs1 imm) hn hj hacc)

theorem completesF_of_runsAs_load (h : RunsAs s i j) (ha : s.ea rs1 imm = a)
    (hj : exec j s = s.loadF 4 m rd (s.ea rs1 imm)) (hm : m.width ≤ s.cfg.flen)
    (hacc : accessible s .read a (m.width / 8)) :
    completesF i 2 s m rd (BitVec.ofNat 128 (s.readBytes a (m.width / 8)), noFlags) := by
  subst ha
  exact completesF_of_runsAs h (completesF_of_loadF hm (s.ea_xtrunc rs1 imm) hj hacc)

theorem completesStore_of_runsAs_storeX (h : RunsAs s i j) (ha : s.ea rs1 imm = a)
    (hj : exec j s = s.storeX 4 (s.ea rs1 imm) rs2 n) (hwf : s.mem.wf = true) (hn : n ≤ 2 ^ 32)
    (hacc : accessible s .write a n) : completesStore i 2 s a n (s.ux rs2) := by
  subst ha
  exact completesStore_of_runsAs h (completesStore_of_store hwf hn (s.ea_xtrunc rs1 imm) hj hacc)

theorem completesStore_of_runsAs_storeF (h : RunsAs s i j) (ha : s.ea rs1 imm = a)
    (hj : exec j s = s.storeF 4 m (s.ea rs1 imm) rs2) (hwf : s.mem.wf = true)
    (hacc : accessible s .write a (m.width / 8)) :
    completesStore i 2 s a (m.width / 8) ((s.readF rs2).toNat % 2 ^ m.width) := by
  subst ha
  exact completesStore_of_runsAs h (completesStore_of_storeF hwf (s.ea_xtrunc rs1 imm) hj hacc)

end

/-- An instruction whose row demands D exists only where `FLEN` has room for a double (R40). -/
theorem flen_of_wellFormed {i : Instr} {c : Config} (hi : i.wellFormed c = true)
    (hD : Letter.D ∈ (i.row c.xlen).ext) : Fmt.width .d ≤ c.flen := by
  obtain ⟨-, hext, -⟩ := Instr.wellFormed_iff.1 hi
  exact flen_of_d (hext _ hD)

/-- Settles O59: each access is the one of its equivalent at the same address. -/
theorem compressedAccessesComplete : Obligations.CompressedAccessesComplete := by
  unfold Obligations.CompressedAccessesComplete
  intro s rd rs2 r r' u7 u8 u9 hwf x
  have hx : x = wideReg := ofNat_eq_wideReg
  clear_value x
  subst hx
  intro near7 near8 store7 store8 stack8 stack9 load loadF store storeF
  have at7 (q : RegIdx) := s.ea_setWidth_eq_ofNat (by decide) q u7
  have at8 (q : RegIdx) := s.ea_setWidth_eq_ofNat (by decide) q u8
  have at9 := s.ea_setWidth_eq_ofNat (by decide) 2#5 u9
  have fits : 8 * 4 ≤ s.cfg.xlen.bits := by cases s.cfg.xlen <;> decide
  have single := flen_of_f s.cfg
  refine ⟨⟨?_, ?_, ?_, ?_⟩, fun h64 => ⟨?_, ?_, ?_, ?_⟩,
    ⟨fun _ => ?_, fun _ => ?_, fun hi => ?_, fun hi => ?_⟩, ⟨fun _ => ?_, fun _ => ?_, fun _ => ?_, fun _ => ?_⟩⟩
  · exact completesX_of_runsAs_load (cLw_runsAs s r r' u7) (at7 _) rfl fits
  · exact completesX_of_runsAs_load (cLwsp_runsAs s rd u8) (at8 _) rfl fits
  · exact completesStore_of_runsAs_storeX (cSw_runsAs s r r' u7) (at7 _) rfl hwf (by decide)
  · exact completesStore_of_runsAs_storeX (cSwsp_runsAs s rs2 u8) (at8 _) rfl hwf (by decide)
  · exact completesX_of_runsAs_load (cLd_runsAs s r r' u8) (at8 _) rfl (by rw [h64]; decide)
  · exact completesX_of_runsAs_load (cLdsp_runsAs s rd u9) at9 rfl (by rw [h64]; decide)
  · exact completesStore_of_runsAs_storeX (cSd_runsAs s r r' u8) (at8 _) rfl hwf (by decide)
  · exact completesStore_of_runsAs_storeX (cSdsp_runsAs s rs2 u9) at9 rfl hwf (by decide)
  · exact completesF_of_runsAs_load (cFlw_runsAs s r r' u7) (at7 _) rfl single
  · exact completesF_of_runsAs_load (cFlwsp_runsAs s rd u8) (at8 _) rfl single
  · exact completesF_of_runsAs_load (cFld_runsAs s r r' u8) (at8 _) rfl (flen_of_wellFormed hi (by simp [Instr.row]))
  · exact completesF_of_runsAs_load (cFldsp_runsAs s rd u9) at9 rfl (flen_of_wellFormed hi (by simp [Instr.row]))
  · exact completesStore_of_runsAs_storeF (cFsw_runsAs s r r' u7) (at7 _) rfl hwf
  · exact completesStore_of_runsAs_storeF (cFswsp_runsAs s rs2 u8) (at8 _) rfl hwf
  · exact completesStore_of_runsAs_storeF (cFsd_runsAs s r r' u8) (at8 _) rfl hwf
  · exact completesStore_of_runsAs_storeF (cFsdsp_runsAs s rs2 u9) at9 rfl hwf

end Sys2Proof.Machine
end

section
/-! The proof of O60: with C a target is aligned where it is even (R27), and the compressed transfers are the shared
operations with an instruction length of 2 (R250). -/

namespace Sys2Proof.Machine

/-! ### Even targets -/

theorem toInt_even {n : Nat} (hn : 0 < n) {v : BitVec n} (hv : v.toNat % 2 = 0) : v.toInt % 2 = 0 := by
  obtain ⟨k, rfl⟩ : ∃ k, n = k + 1 := ⟨n - 1, by omega⟩
  rw [BitVec.toInt_eq_toNat_cond, pow_succ]
  split <;> push_cast <;> omega

/-- A displacement that is even leads from an even pc to an even target (R143). -/
theorem State.pcRel_even {n : Nat} (hn : 0 < n) (hn64 : n ≤ 64) {s : State} {imm : BitVec n}
    (hpc : s.pc.toNat % 2 = 0) (himm : imm.toNat % 2 = 0) : (s.pcRel imm).toNat % 2 = 0 := by
  have target := s.pcRel_toNat hn64 imm
  have even := toInt_even hn himm
  unfold State.modulus at target
  cases hx : s.cfg.xlen <;> simp only [hx, Xlen.bits] at target <;> omega

/-- A jump to a register's own value clears its bit 0 (R143, R276). -/
theorem State.jalrTarget_zero (s : State) (rs1 : RegIdx) :
    s.jalrTarget rs1 0#12 = BitVec.ofNat 64 (s.ux rs1 - s.ux rs1 % 2) := by
  have target : ((s.jalrTarget rs1 0#12).toNat : Int) = s.ux rs1 % s.modulus - s.ux rs1 % 2 := by
    simpa using s.jalrTarget_toNat rs1 0#12
  have small : s.ux rs1 % s.modulus = s.ux rs1 := Nat.mod_eq_of_lt (s.readX_lt rs1)
  have word : s.ux rs1 < 2 ^ 64 := (s.readX rs1).isLt
  apply BitVec.eq_of_toNat_eq
  rw [BitVec.toNat_ofNat]
  omega

theorem State.jalrTarget_zero_even (s : State) (rs1 : RegIdx) : (s.jalrTarget rs1 0#12).toNat % 2 = 0 := by
  rw [s.jalrTarget_zero, BitVec.toNat_ofNat]
  omega

/-- With C, `IALIGN` is 16 (R27). -/
theorem ialignBytes_of_c {c : Config} (h : c.ext.c = true) : c.ialignBytes = 2 := if_pos h

/-! ### Transfers whose target is aligned -/

section
variable {s : State} {i : Instr} {t : Word}

/-- A branch to an aligned target goes there where its condition holds, and on past itself where not. -/
theorem completesAt_of_branch {n len : Nat} {imm : BitVec n} {b : Bool} {taken : Prop}
    (aligned : (s.pcRel imm).toNat % s.cfg.ialignBytes = 0) (h : exec i s = s.branch len b imm)
    (hb : b = true ↔ taken) :
    (taken → completesAt i s (s.pcRel imm)) ∧
      (¬ taken → completesAt i s (xtrunc s.cfg.xlen (s.pc + BitVec.ofNat 64 len))) := by
  constructor
  · intro htaken
    rw [hb.2 htaken, State.branch_taken] at h
    exact completesAt_of_retireTo (s.pcRel_xtrunc imm) (h.trans (State.jump_of_aligned aligned id))
  · intro hnot
    rw [Bool.eq_false_iff.2 (hnot ∘ hb.1), State.branch_not_taken] at h
    exact completesAt_of_retire h

/-- A jump that links to `x0` changes the pc and `instret` only (R21). -/
theorem completesAt_of_jumpLink {len : Nat} (ht : xtrunc s.cfg.xlen t = t)
    (aligned : t.toNat % s.cfg.ialignBytes = 0) (h : exec i s = s.jumpLink len 0#5 t) : completesAt i s t := by
  refine completesAt_of_retireTo ht (h.trans ((State.jump_of_aligned aligned _).trans ?_))
  rw [State.writeX_zero]

end

/-- Settles O60: every target is even, which is aligned with C. -/
theorem compressedTransfersGoToTheirTarget : Obligations.CompressedTransfersGoToTheirTarget := by
  unfold Obligations.CompressedTransfersGoToTheirTarget
  intro s r rs1 off imm hc hpc hoff himm x
  have hx : x = wideReg := ofNat_eq_wideReg
  clear_value x
  subst hx
  intro next branch target
  have htarget : s.jalrTarget rs1 0#12 = target := s.jalrTarget_zero rs1
  have aligned {t : Word} (even : t.toNat % 2 = 0) : t.toNat % s.cfg.ialignBytes = 0 := by
    rw [ialignBytes_of_c hc, even]
  have off_aligned := aligned (State.pcRel_even (by decide) (by decide) hpc hoff)
  have imm_aligned := aligned (State.pcRel_even (by decide) (by decide) hpc himm)
  have reg_aligned := aligned (s.jalrTarget_zero_even rs1)
  have zero : (s.readX (wideReg r) == s.readX 0#5) = true ↔ s.ux (wideReg r) = 0 := by
    rw [s.readX_beq_iff, s.ux_zero]
  have nonzero : (s.readX (wideReg r) != s.readX 0#5) = true ↔ s.ux (wideReg r) ≠ 0 := by
    rw [bne, Bool.not_eq_true', ← Bool.not_eq_true, zero]
  rw [← htarget]
  exact ⟨s.pcRel_toNat (by decide) off, s.pcRel_toNat (by decide) imm, completesAt_of_branch off_aligned rfl zero,
    completesAt_of_branch off_aligned rfl nonzero, completesAt_of_jumpLink (s.pcRel_xtrunc imm) imm_aligned rfl,
    completesAt_of_jumpLink (s.jalrTarget_xtrunc rs1 0#12) reg_aligned rfl,
    s.jumpLink_linkedX 2 ra (s.pcRel_xtrunc imm) imm_aligned,
    s.jumpLink_linkedX 2 ra (s.jalrTarget_xtrunc rs1 0#12) reg_aligned⟩

end Sys2Proof.Machine
end

section
/-! The products and quotients of the M extension as integers: what MUL to MULHU keep of the exact product (R322 to
R325), and what the table of R321 gives for a divisor of zero and the signed overflow. -/

namespace Sys2Proof.Machine

/-! ### Halves of a product -/

section
variable {x : Xlen} {v u : Word} {i j : Int}

theorem RepresentsInt.mul (hv : RepresentsInt x v i) (hu : RepresentsInt x u j) :
    RepresentsInt x (v * u) (i * j) := by
  have product : RepresentsInt x (v * u) (v.toNat * u.toNat) := .of_modEq <| by
    rw [BitVec.toNat_mul, Int.natCast_mod, Int.natCast_mul]
    exact Int.mod_modEq _ _
  exact product.trans (Int.ModEq.mul hv hu)

theorem representsInt_ofInt (x : Xlen) (i : Int) : RepresentsInt x (BitVec.ofInt 64 i) i := .of_modEq <| by
  rw [BitVec.toNat_ofInt, Int.toNat_of_nonneg (Int.emod_nonneg _ (by decide))]
  exact Int.mod_modEq _ _

theorem abs_xsigned_le (x : Xlen) (v : Word) : |xsigned x v| ≤ 2 ^ (x.bits - 1) := by
  have signed_le {w : Nat} (b : BitVec w) : |b.toInt| ≤ 2 ^ (w - 1) := abs_le.2 ⟨b.le_toInt, b.toInt_lt.le⟩
  cases x <;> exact signed_le _

/-- The register of `XLEN` bits holds the upper half of a signed or mixed product whole (R323, R324). -/
theorem xsigned_upperHalf_mul (hi : |i| ≤ 2 ^ (x.bits - 1)) (hj : |j| < 2 ^ x.bits) :
    xsigned x (xtrunc x (upperHalf x (i * j))) = i * j / 2 ^ x.bits := by
  have product : |i * j| < 2 ^ (x.bits - 1) * 2 ^ x.bits :=
    abs_mul i j ▸ mul_lt_mul' hi hj (abs_nonneg j) (by positivity)
  obtain ⟨above, below⟩ := abs_lt.1 product
  rw [upperHalf, xsigned_xtrunc, xsigned_xofInt]
  apply Int.bmod_eq_of_le <;> cases x <;> simp only [Xlen.bits] at above below ⊢ <;> omega

/-- The register of `XLEN` bits holds the upper half of an unsigned product whole (R325). -/
theorem upperHalf_mul_toNat {m n : Nat} (hm : m < 2 ^ x.bits) (hn : n < 2 ^ x.bits) :
    (xtrunc x (upperHalf x ((m * n : Nat) : Int))).toNat = m * n / 2 ^ x.bits := by
  have half_lt : m * n / 2 ^ x.bits < 2 ^ x.bits :=
    Nat.div_lt_of_lt_mul (mul_lt_mul'' hm hn (Nat.zero_le _) (Nat.zero_le _))
  have cut : ((xtrunc x (upperHalf x ((m * n : Nat) : Int))).toNat : Int) =
      ((m * n / 2 ^ x.bits % 2 ^ x.bits : Nat) : Int) := by
    rw [upperHalf, xofInt, xtrunc_xtrunc, (representsInt_ofInt x _).toNat_xtrunc]
    push_cast
    rfl
  rw [Int.ofNat_inj.1 cut, Nat.mod_eq_of_lt half_lt]

end

theorem State.abs_sx_lt (s : State) (r : RegIdx) : |s.sx r| < 2 ^ s.cfg.xlen.bits :=
  (abs_xsigned_le _ _).trans_lt (pow_lt_pow_right₀ (by decide) (by cases s.cfg.xlen <;> decide))

theorem State.abs_ux_lt (s : State) (r : RegIdx) : |(s.ux r : Int)| < 2 ^ s.cfg.xlen.bits := by
  rw [Nat.abs_cast]
  exact_mod_cast s.readX_lt r

/-! ### The table of R321 -/

/-- R321's signed quotient of numbers of `len` bits. -/
def signedQuotient (len : Nat) (a b : Int) : Int :=
  if b = 0 then -1 else if a = -(2 : Int) ^ (len - 1) ∧ b = -1 then a else a.tdiv b

/-- R321's signed remainder of numbers of `len` bits. -/
def signedRemainder (len : Nat) (a b : Int) : Int :=
  if b = 0 then a else if a = -(2 : Int) ^ (len - 1) ∧ b = -1 then 0 else a.tmod b

/-- R321's unsigned quotient of numbers of `len` bits. -/
def unsignedQuotient (len a b : Nat) : Nat := if b = 0 then 2 ^ len - 1 else a / b

/-- R321's unsigned remainder, at every length. -/
def unsignedRemainder (a b : Nat) : Nat := if b = 0 then a else a % b

section
variable {w : Nat} (a b : BitVec w)

theorem toInt_eq_zero_iff : b.toInt = 0 ↔ b = 0#w := by rw [← BitVec.toInt_inj, BitVec.toInt_zero]

theorem toNat_eq_zero_iff : b.toNat = 0 ↔ b = 0#w := by rw [← BitVec.toNat_inj, BitVec.toNat_ofNat, Nat.zero_mod]

/-- But for the signed overflow, the quotient rounded towards zero is a number of `w` bits. -/
theorem tdiv_bmod_of_not_overflow (hw : 0 < w) (h : ¬ (a.toInt = -(2 : Int) ^ (w - 1) ∧ b.toInt = -1)) :
    (a.toInt.tdiv b.toInt).bmod (2 ^ w) = a.toInt.tdiv b.toInt := by
  have not_intMin : a ≠ BitVec.intMin w ∨ b ≠ -1#w := by
    contrapose! h
    obtain ⟨rfl, rfl⟩ := h
    rw [BitVec.toInt_intMin_of_pos hw, BitVec.neg_one_eq_allOnes, BitVec.toInt_allOnes, if_pos hw]
    exact ⟨rfl, rfl⟩
  rw [← BitVec.toInt_sdiv, BitVec.toInt_sdiv_of_ne_or_ne a b not_intMin]

theorem divSigned_toInt (hw : 0 < w) : (divSigned a b).toInt = signedQuotient w a.toInt b.toInt := by
  unfold divSigned signedQuotient
  simp only [toInt_eq_zero_iff]
  split_ifs with zero overflow
  · rw [BitVec.toInt_allOnes, if_pos hw]
  · rfl
  · rw [BitVec.toInt_ofInt, tdiv_bmod_of_not_overflow a b hw overflow]

theorem remSigned_toInt : (remSigned a b).toInt = signedRemainder w a.toInt b.toInt := by
  unfold remSigned signedRemainder
  simp only [toInt_eq_zero_iff]
  split_ifs
  · rfl
  · exact BitVec.toInt_zero
  · rw [BitVec.toInt_ofInt, ← Int.tmod_def, ← BitVec.toInt_srem, BitVec.toInt_bmod_cancel]

theorem divUnsigned_toNat : (divUnsigned a b).toNat = unsignedQuotient w a.toNat b.toNat := by
  unfold divUnsigned unsignedQuotient
  simp only [toNat_eq_zero_iff]
  split_ifs
  · exact BitVec.toNat_allOnes
  · rw [BitVec.toNat_ofNat, Nat.mod_eq_of_lt ((Nat.div_le_self _ _).trans_lt a.isLt)]

theorem remUnsigned_toNat : (remUnsigned a b).toNat = unsignedRemainder a.toNat b.toNat := by
  unfold remUnsigned unsignedRemainder
  simp only [toNat_eq_zero_iff]
  split_ifs
  · rfl
  · rw [BitVec.toNat_ofNat, Nat.mod_eq_of_lt ((Nat.mod_le _ _).trans_lt a.isLt)]

end

/-! ### Division at `XLEN` bits -/

section
variable {op : {w : Nat} → BitVec w → BitVec w → BitVec w}

/-- A signed operation at every width is that operation at `XLEN` bits. -/
theorem xsigned_xdivide {f : Nat → Int → Int → Int}
    (h : ∀ {w : Nat} (a b : BitVec w), 0 < w → (op a b).toInt = f w a.toInt b.toInt) (x : Xlen) (a b : Word) :
    xsigned x (xtrunc x (xdivide x op a b)) = f x.bits (xsigned x a) (xsigned x b) := by
  rw [xsigned_xtrunc]
  cases x with
  | rv32 => exact (xsigned_rv32_setWidth _).trans (h _ _ (by decide))
  | rv64 => exact h a b (by decide)

/-- An unsigned operation at every width is that operation at `XLEN` bits. -/
theorem xunsigned_xdivide {f : Nat → Nat → Nat → Nat}
    (h : ∀ {w : Nat} (a b : BitVec w), (op a b).toNat = f w a.toNat b.toNat) (x : Xlen) (a b : Word) :
    xunsigned x (xdivide x op a b) = f x.bits (xunsigned x a) (xunsigned x b) := by
  cases x with
  | rv32 =>
    have low_half (v : Word) : xunsigned .rv32 v = (v.setWidth 32).toNat := BitVec.toNat_setWidth_of_le (by decide)
    rw [low_half, low_half, low_half, xdivide, BitVec.setWidth_setWidth_of_le _ (by decide), BitVec.setWidth_eq]
    exact h _ _
  | rv64 => exact h a b

/-- An unsigned division of two registers. -/
theorem State.xdivide_readX_toNat {f : Nat → Nat → Nat → Nat}
    (h : ∀ {w : Nat} (a b : BitVec w), (op a b).toNat = f w a.toNat b.toNat) (s : State) (rs1 rs2 : RegIdx) :
    (xtrunc s.cfg.xlen (xdivide s.cfg.xlen op (s.readX rs1) (s.readX rs2))).toNat =
      f s.cfg.xlen.bits (s.ux rs1) (s.ux rs2) := by
  rw [← s.xunsigned_readX, ← s.xunsigned_readX]
  exact xunsigned_xdivide h _ _ _

end

/-! ### Division of the low 32 bits -/

/-- A `W` form on RV64 whose 32-bit result has the signed value `r` writes `r` (R141). -/
theorem completesX_of_wordResult_toInt {i : Instr} {s : State} {rd : RegIdx} {v : BitVec 32} {r : Int}
    (h64 : s.cfg.xlen = .rv64) (h : exec i s = s.finishX 4 rd (wordResult v)) (hv : v.toInt = r) :
    completesX i 4 s rd (fun u => u.toInt = r) := by
  have kept : r.bmod (2 ^ 32) = r := hv ▸ v.toInt_bmod_cancel
  have written := completesX_of_wordResult h64 h (hv.trans kept.symm)
  rwa [kept] at written

theorem State.readW_toNat (s : State) (r : RegIdx) : (s.readW r).toNat = s.ux r % 2 ^ 32 :=
  BitVec.toNat_setWidth ..

/-- The 32-bit unsigned quotient read as a signed number: all ones is -1. -/
theorem divUnsigned_toInt (a b : BitVec 32) : (divUnsigned a b).toInt =
    if b.toNat = 0 then -1 else ((a.toNat / b.toNat : Nat) : Int).bmod (2 ^ 32) := by
  rw [BitVec.toInt_eq_toNat_bmod, divUnsigned_toNat, unsignedQuotient]
  split <;> rfl

/-- The 32-bit unsigned remainder read as a signed number. -/
theorem remUnsigned_toInt (a b : BitVec 32) : (remUnsigned a b).toInt =
    if b.toNat = 0 then a.toInt else ((a.toNat % b.toNat : Nat) : Int).bmod (2 ^ 32) := by
  rw [BitVec.toInt_eq_toNat_bmod, remUnsigned_toNat, unsignedRemainder, BitVec.toInt_eq_toNat_bmod a]
  split <;> rfl

end Sys2Proof.Machine
end

section
/-! The proofs of O35 and O36: each instruction of the M extension ends in `finishX` with a half of the product or
an entry of R321's table. -/

namespace Sys2Proof.Machine

/-- Settles O35: the low half is the product modulo 2^`XLEN`, and the upper half fits its register. -/
theorem productsAreExactHalves : Obligations.ProductsAreExactHalves := by
  unfold Obligations.ProductsAreExactHalves
  intro s rd rs1 rs2
  have signed_le := abs_xsigned_le s.cfg.xlen (s.readX rs1)
  refine ⟨completesX_of_finishX rfl ?mul, completesX_of_finishX rfl ?mulh, completesX_of_finishX rfl ?mulhsu,
    completesX_of_finishX rfl ?mulhu, fun h64 => completesX_of_wordResult h64 rfl (BitVec.toInt_mul _ _)⟩
  case mul => exact_mod_cast ((s.representsInt_readX rs1).mul (s.representsInt_readX rs2)).toNat_xtrunc
  case mulh => exact_mod_cast xsigned_upperHalf_mul signed_le (s.abs_sx_lt rs2)
  case mulhsu =>
    rw [s.xunsigned_readX]
    exact_mod_cast xsigned_upperHalf_mul signed_le (s.abs_ux_lt rs2)
  case mulhu =>
    rw [s.xunsigned_readX, s.xunsigned_readX]
    exact upperHalf_mul_toNat (s.readX_lt rs1) (s.readX_lt rs2)

/-- Settles O36, by R321's table at `XLEN` bits and at 32. -/
theorem divisionRoundsTowardsZeroAndNeverTraps : Obligations.DivisionRoundsTowardsZeroAndNeverTraps := by
  unfold Obligations.DivisionRoundsTowardsZeroAndNeverTraps
  intro s rd rs1 rs2 quotient remainder n low
  refine ⟨completesX_of_finishX rfl (xsigned_xdivide divSigned_toInt _ _ _),
    completesX_of_finishX rfl (xsigned_xdivide (fun a b _ => remSigned_toInt a b) _ _ _),
    completesX_of_finishX rfl (s.xdivide_readX_toNat divUnsigned_toNat rs1 rs2),
    completesX_of_finishX rfl (s.xdivide_readX_toNat (f := fun _ => unsignedRemainder) remUnsigned_toNat rs1 rs2),
    fun h64 => ?words⟩
  case words =>
    have low_toNat : ∀ r, (s.readW r).toNat = low r := s.readW_toNat
    refine ⟨completesX_of_wordResult_toInt h64 rfl (divSigned_toInt _ _ (by decide)),
      completesX_of_wordResult_toInt h64 rfl (remSigned_toInt _ _),
      completesX_of_wordResult_toInt h64 rfl ?divuw, completesX_of_wordResult_toInt h64 rfl ?remuw⟩
    case divuw => rw [← low_toNat, ← low_toNat, divUnsigned_toInt]
    case remuw => rw [← low_toNat, ← low_toNat, remUnsigned_toInt]; rfl

end Sys2Proof.Machine
end

section
/-! What the laws of the A extension do where their checks pass (R341 to R343): an atomic makes one access, which
changes memory, the reservation and the draws alone, and then writes `x[rd]` and retires. -/

namespace Sys2Proof.Machine

/-! ### The checks -/

/-- A register's address is misaligned where the number it holds is not a multiple of the size (R64). -/
theorem State.misaligned_readX (s : State) (r : RegIdx) (n : Nat) :
    misaligned s.cfg.xlen (s.readX r) n = true ↔ (s.readX r).toNat % n ≠ 0 := by
  rw [misaligned, s.xunsigned_readX, bne_iff_ne]
  rfl

section
variable {s : State} {w : Nat} {rd rs1 rs2 : RegIdx}

/-- An AMO whose checks pass: the converse of `State.amo_next`. -/
theorem State.amo_of_accessible (h : accessibleAtomic s [.read, .write] (s.readX rs1) (w / 8))
    (op : BitVec w → BitVec w → BitVec w) :
    s.amo w rd rs1 rs2 op =
      (s.writeBytes (s.readX rs1)
          (op (BitVec.ofNat w (s.readBytes (s.readX rs1) (w / 8))) ((s.readX rs2).setWidth w)).toNat
          (w / 8)).finishX 4 rd
        (xsext s.cfg.xlen (BitVec.ofNat w (s.readBytes (s.readX rs1) (w / 8)))) := by
  obtain ⟨aligned, allowed⟩ := h
  have reads := (s.allowsAll_iff .read _ _).2 (allowed .read (by decide))
  have writes := (s.allowsAll_iff .write _ _).2 (allowed .write (by decide))
  have both : s.allowsAmo (s.readX rs1) (w / 8) = true := by rw [State.allowsAmo, reads, writes]; rfl
  exact (if_neg fun bad => (s.misaligned_readX _ _).1 bad aligned).trans (if_pos both)

/-- An LR whose checks pass: the converse of `State.lr_next`. -/
theorem State.lr_of_accessible (h : accessibleAtomic s [.read] (s.readX rs1) (w / 8)) :
    s.lr w rd rs1 =
      { s with reservation := some { addr := s.readX rs1, size := w / 8 } }.finishX 4 rd
        (xsext s.cfg.xlen (BitVec.ofNat w (s.readBytes (s.readX rs1) (w / 8)))) := by
  obtain ⟨aligned, allowed⟩ := h
  have reads := (s.allowsAll_iff .read _ _).2 (allowed .read (by decide))
  exact (if_neg fun bad => (s.misaligned_readX _ _).1 bad aligned).trans (if_pos reads)

/-- An SC whose checks pass: the converse of `State.sc_next`. -/
theorem State.sc_of_accessible (h : accessibleAtomic s [.write] (s.readX rs1) (w / 8)) :
    s.sc w rd rs1 rs2 =
      if s.scSucceeds (s.readX rs1) (w / 8) then
        State.finishX { s.writeBytes (s.readX rs1) ((s.readX rs2).setWidth w).toNat (w / 8) with
          reservation := none, draws := s.draws + 1 } 4 rd 0#64
      else State.finishX { s with reservation := none, draws := s.draws + 1 } 4 rd 1#64 := by
  obtain ⟨aligned, allowed⟩ := h
  have writes := (s.allowsAll_iff .write _ _).2 (allowed .write (by decide))
  exact (if_neg fun bad => (s.misaligned_readX _ _).1 bad aligned).trans (if_pos writes)

end

/-! ### The access, and the end of the instruction -/

/-- `u` is `s` but for memory, the stale set, the reservation and the draws: what the access of an atomic may
change. -/
structure SameButAccess (s u : State) : Prop where
  cfg : u.cfg = s.cfg
  x : u.x = s.x
  pc : u.pc = s.pc
  f : u.f = s.f
  fcsr : u.fcsr = s.fcsr
  instret : u.instret = s.instret
  extraCsrs : u.extraCsrs = s.extraCsrs
  cycleLast : u.cycleLast = s.cycleLast
  timeLast : u.timeLast = s.timeLast

/-- An atomic completed from `s` in `t`: beside its access it wrote `v` to `x[rd]` and retired (R140). -/
structure AtomicCompletes (rd : RegIdx) (v : Word) (s t : State) : Prop where
  retired : retiredBy 4 s t
  readX_rd : t.readX rd = if rd = 0#5 then 0#64 else v
  sameX : sameXBut rd s t
  sameF : sameF s t
  fcsr : t.fcsr = s.fcsr
  cfg : t.cfg = s.cfg
  extraCsrs : t.extraCsrs = s.extraCsrs
  cycleLast : t.cycleLast = s.cycleLast
  timeLast : t.timeLast = s.timeLast

section
variable {s u t : State}

/-- A store changes memory and the stale set alone (R66). -/
theorem SameButAccess.writeBytes (s : State) (a : Word) (v n : Nat) : SameButAccess s (s.writeBytes a v n) := by
  constructor <;> simp

/-- Making or clearing a reservation, with or without a draw, keeps `SameButAccess`. -/
theorem SameButAccess.setReservation (h : SameButAccess s u) (r : Option Reservation) (d : Nat) :
    SameButAccess s { u with reservation := r, draws := d } :=
  ⟨h.cfg, h.x, h.pc, h.f, h.fcsr, h.instret, h.extraCsrs, h.cycleLast, h.timeLast⟩

theorem SameButAccess.refl (s : State) : SameButAccess s s := ⟨rfl, rfl, rfl, rfl, rfl, rfl, rfl, rfl, rfl⟩

/-- After its access an atomic ends in `finishX`, which leaves memory and the reservation as the access did. -/
theorem SameButAccess.finishX (h : SameButAccess s u) (rd : RegIdx) (v : Word) :
    ∃ t, u.finishX 4 rd v = .next t ∧ AtomicCompletes rd (xtrunc s.cfg.xlen v) s t ∧ sameMemory u t ∧
      t.reservation = u.reservation := by
  obtain ⟨t, ht, ⟨pc, instret⟩, readX_rd, sameX, sameF, fcsr, memory, cfg, reservation, extraCsrs, cycleLast,
    timeLast⟩ := u.finishX_wroteX 4 rd v
  rw [h.pc, h.cfg] at pc
  rw [h.cfg] at readX_rd
  exact ⟨t, ht,
    { retired := ⟨pc, instret.trans (congrArg (· + 1#64) h.instret)⟩
      readX_rd := readX_rd
      sameX := fun r hr => (sameX r hr).trans (State.readX_congr h.x h.cfg r)
      sameF := fun r => (sameF r).trans (State.readF_congr h.f h.cfg r)
      fcsr := fcsr.trans h.fcsr
      cfg := cfg.trans h.cfg
      extraCsrs := extraCsrs.trans h.extraCsrs
      cycleLast := cycleLast.trans h.cycleLast
      timeLast := timeLast.trans h.timeLast },
    memory, reservation⟩

/-- What a store left in memory is there still where memory is the same. -/
theorem storedBytes_of_sameMemory {a : Word} {n v : Nat} (h : storedBytes a n v s u) (hm : sameMemory u t) :
    storedBytes a n v s t := by
  obtain ⟨stored, others, stale⟩ := h
  obtain ⟨bytes, same_stale⟩ := hm
  exact ⟨fun i hi => (bytes _).trans (stored i hi), fun k hk => (bytes k).trans (others k hk),
    fun k => same_stale ▸ stale k⟩

end

/-! ### The operations of the AMOs -/

/-- Where the operands are equal, either of them is the smaller (R349). -/
theorem minSigned_eq {w : Nat} : @minSigned w = fun t v => if t.toInt ≤ v.toInt then t else v := by
  funext t v
  by_cases equal : t = v
  · simp [minSigned, equal]
  · simp [minSigned, lt_iff_le_and_ne, BitVec.toInt_inj, equal]

theorem maxSigned_eq {w : Nat} : @maxSigned w = fun t v => if t.toInt ≤ v.toInt then v else t := by
  funext t v
  simp only [maxSigned, gt_iff_lt, ← not_le, ite_not]

theorem minUnsigned_eq {w : Nat} : @minUnsigned w = fun t v => if t.toNat ≤ v.toNat then t else v := by
  funext t v
  by_cases equal : t = v
  · simp [minUnsigned, equal]
  · simp [minUnsigned, lt_iff_le_and_ne, BitVec.toNat_inj, equal]

theorem maxUnsigned_eq {w : Nat} : @maxUnsigned w = fun t v => if t.toNat ≤ v.toNat then v else t := by
  funext t v
  simp only [maxUnsigned, gt_iff_lt, ← not_le, ite_not]

/-! ### The result of an SC -/

theorem xtrunc_zero (x : Xlen) : xtrunc x 0#64 = 0#64 := by cases x <;> rfl

theorem xtrunc_one (x : Xlen) : xtrunc x 1#64 = 1#64 := by cases x <;> rfl

/-! ### The block of a reservation -/

/-- The block of `b` bytes that contains `m`, by its base. -/
theorem block_base_iff {b m base : Nat} (hb : 0 < b) :
    base % b = 0 ∧ base ≤ m ∧ m < base + b ↔ base = m - m % b := by
  have below := Nat.mod_lt m hb
  have split := Nat.div_add_mod m b
  constructor
  · rintro ⟨aligned, lower, upper⟩
    obtain ⟨k, rfl⟩ := Nat.dvd_of_mod_eq_zero aligned
    have quotient : m / b = k :=
      Nat.div_eq_of_lt_le (by rwa [Nat.mul_comm]) (by rwa [Nat.mul_comm, Nat.mul_succ])
    rw [quotient] at split
    omega
  · rintro rfl
    exact ⟨Nat.sub_mod_eq_zero_of_mod_eq (Nat.mod_mod m b).symm, by omega, by omega⟩

/-- The reservation is of size `n` (D15, log entry 10), and an aligned block of `max(RESGRAN, n)` bytes contains
its address and the bytes `a` to `a + n - 1` (R343). -/
def State.reservationCovers (s : State) (a : Word) (n : Nat) : Prop :=
  ∃ r base, s.reservation = some r ∧ r.size = n ∧ base % max s.cfg.resGran r.size = 0 ∧
    base ≤ r.addr.toNat ∧ r.addr.toNat < base + max s.cfg.resGran r.size ∧
    base ≤ a.toNat ∧ a.toNat + n ≤ base + max s.cfg.resGran r.size

theorem State.reserved_iff_reservationCovers {s : State} {a : Word} {n : Nat} (hn : 0 < n) :
    s.reserved a n = true ↔ s.reservationCovers a n := by
  have base_iff {r : Reservation} {base : Nat} (size : r.size = n) :=
    block_base_iff (m := r.addr.toNat) (base := base) (lt_max_of_lt_right (b := s.cfg.resGran) (size ▸ hn))
  rw [State.reserved_iff, State.reservationCovers]
  constructor
  · rintro ⟨r, held, size, lower, upper⟩
    obtain ⟨aligned, base_le, lt_end⟩ := (base_iff size).2 rfl
    exact ⟨r, _, held, size, aligned, base_le, lt_end, lower, upper⟩
  · rintro ⟨r, base, held, size, aligned, base_le, lt_end, lower, upper⟩
    obtain rfl := (base_iff size).1 ⟨aligned, base_le, lt_end⟩
    exact ⟨r, held, size, lower, upper⟩

end Sys2Proof.Machine
end

section
/-! The proofs of O37, O38 and O39: each AMO, LR and SC, through the law of its kind at 32 or 64 bits. -/

namespace Sys2Proof.Machine

section
variable {s : State} {i : Instr} {w : Nat} {rd rs1 rs2 : RegIdx}

/-- What R341 says of an AMO that applies `op` to `w` bits. -/
def AmoStores (s : State) (rd rs1 rs2 : RegIdx) (w : Nat) (i : Instr) (op : BitVec w → BitVec w → BitVec w) : Prop :=
  accessibleAtomic s [.read, .write] (s.readX rs1) (w / 8) → ∃ t v, exec i s = .next t ∧ retiredBy 4 s t ∧
    storedBytes (s.readX rs1) (w / 8)
      (op (BitVec.ofNat w (s.readBytes (s.readX rs1) (w / 8))) ((s.readX rs2).setWidth w)).toNat s t ∧
    t.readX rd = (if rd = 0#5 then 0#64 else v) ∧
    xsigned s.cfg.xlen v = (BitVec.ofNat w (s.readBytes (s.readX rs1) (w / 8))).toInt ∧
    sameXBut rd s t ∧ sameF s t ∧ t.fcsr = s.fcsr ∧ sameSystem s t

/-- An instruction that is an AMO of at most `XLEN` bits. -/
theorem amoStores_of_amo {op : BitVec w → BitVec w → BitVec w} (hwf : s.mem.wf = true) (hw : w ≤ s.cfg.xlen.bits)
    (h : exec i s = s.amo w rd rs1 rs2 op) : AmoStores s rd rs1 rs2 w i op := by
  intro hacc
  have size : w / 8 ≤ 2 ^ 32 := (Nat.div_le_self _ _).trans (hw.trans (by cases s.cfg.xlen <;> decide))
  obtain ⟨t, ht, done, memory, reservation⟩ := (SameButAccess.writeBytes s (s.readX rs1) _ (w / 8)).finishX rd _
  exact ⟨t, _, (h.trans (State.amo_of_accessible hacc op)).trans ht, done.retired,
    storedBytes_of_sameMemory (State.storedBytes_writeBytes hwf _ _ size) memory, done.readX_rd,
    (xsigned_xtrunc _ _).trans (xsigned_xsext hw _), done.sameX, done.sameF, done.fcsr, done.cfg,
    reservation.trans (State.writeBytes_reservation ..), done.extraCsrs, done.cycleLast, done.timeLast⟩

/-- An instruction that is an LR of at most `XLEN` bits (R342). -/
theorem lr_completes (hw : w ≤ s.cfg.xlen.bits) (h : exec i s = s.lr w rd rs1)
    (hacc : accessibleAtomic s [.read] (s.readX rs1) (w / 8)) :
    ∃ t v, exec i s = .next t ∧ AtomicCompletes rd v s t ∧
      xsigned s.cfg.xlen v = (BitVec.ofNat w (s.readBytes (s.readX rs1) (w / 8))).toInt ∧
      t.reservation = some { addr := s.readX rs1, size := w / 8 } ∧ sameMemory s t := by
  obtain ⟨t, ht, done, memory, reservation⟩ :=
    ((SameButAccess.refl s).setReservation (some { addr := s.readX rs1, size := w / 8 }) s.draws).finishX rd _
  exact ⟨t, _, (h.trans (State.lr_of_accessible hacc)).trans ht, done,
    (xsigned_xtrunc _ _).trans (xsigned_xsext hw _), reservation, memory⟩

/-- An SC that stored the low `w` bits of `x[rs2]` and wrote 0 (R343). -/
def ScStored (s : State) (rd rs1 rs2 : RegIdx) (w : Nat) (t : State) : Prop :=
  storedBytes (s.readX rs1) (w / 8) (s.ux rs2 % 2 ^ w) s t ∧ t.readX rd = 0#64

/-- An SC that left memory alone and wrote 1 (R343). -/
def ScFailed (s : State) (rd : RegIdx) (t : State) : Prop :=
  sameMemory s t ∧ t.readX rd = if rd = 0#5 then 0#64 else 1#64

/-- An instruction that is an SC clears the reservation, and stores where `scSucceeds` (R343). -/
theorem sc_completes (hwf : s.mem.wf = true) (size : w / 8 ≤ 2 ^ 32) (h : exec i s = s.sc w rd rs1 rs2)
    (hacc : accessibleAtomic s [.write] (s.readX rs1) (w / 8)) :
    ∃ t v, exec i s = .next t ∧ AtomicCompletes rd v s t ∧ t.reservation = none ∧
      if s.scSucceeds (s.readX rs1) (w / 8) = true then ScStored s rd rs1 rs2 w t else ScFailed s rd t := by
  have sc_eq := h.trans (State.sc_of_accessible hacc)
  by_cases succeeds : s.scSucceeds (s.readX rs1) (w / 8) = true
  · rw [if_pos succeeds] at sc_eq
    obtain ⟨t, ht, done, memory, reservation⟩ :=
      ((SameButAccess.writeBytes s (s.readX rs1) _ (w / 8)).setReservation none (s.draws + 1)).finishX rd 0#64
    have stored := storedBytes_of_sameMemory (State.storedBytes_writeBytes hwf (s.readX rs1) _ size) memory
    refine ⟨t, _, sc_eq.trans ht, done, reservation, ?_⟩
    rw [BitVec.toNat_setWidth] at stored
    rw [if_pos succeeds]
    exact ⟨stored, done.readX_rd.trans (by rw [xtrunc_zero, ite_self])⟩
  · rw [if_neg succeeds] at sc_eq
    obtain ⟨t, ht, done, memory, reservation⟩ :=
      ((SameButAccess.refl s).setReservation none (s.draws + 1)).finishX rd 1#64
    refine ⟨t, _, sc_eq.trans ht, done, reservation, ?_⟩
    rw [if_neg succeeds]
    exact ⟨memory, done.readX_rd.trans (by rw [xtrunc_one])⟩

end

/-- Settles O37, by the AMO law at 32 bits, which fit in every register, and at the 64 of RV64. -/
theorem amosStoreTheirOperationAndReturnTheOldValue : Obligations.AmosStoreTheirOperationAndReturnTheOldValue := by
  unfold Obligations.AmosStoreTheirOperationAndReturnTheOldValue
  intro s rd rs1 rs2 aq rl hwf a amo
  have amo_eq : amo = AmoStores s rd rs1 rs2 := rfl
  rw [amo_eq]
  have atWidth (w : Nat) (hw : w ≤ s.cfg.xlen.bits) {i : Instr} {op : BitVec w → BitVec w → BitVec w}
      (h : exec i s = s.amo w rd rs1 rs2 op) : AmoStores s rd rs1 rs2 w i op := amoStores_of_amo hwf hw h
  have word := @atWidth 32 (by cases s.cfg.xlen <;> decide)
  have choice (w : Nat) {op op' : BitVec w → BitVec w → BitVec w} (h : op = op') :
      s.amo w rd rs1 rs2 op = s.amo w rd rs1 rs2 op' := congrArg _ h
  refine ⟨⟨word rfl, word rfl, word rfl, word rfl, word rfl, word (choice 32 minSigned_eq),
    word (choice 32 maxSigned_eq), word (choice 32 minUnsigned_eq), word (choice 32 maxUnsigned_eq)⟩,
    fun h64 => ?doubles⟩
  case doubles =>
    have double := @atWidth 64 (by rw [h64]; decide)
    exact ⟨double rfl, double rfl, double rfl, double rfl, double rfl, double (choice 64 minSigned_eq),
      double (choice 64 maxSigned_eq), double (choice 64 minUnsigned_eq), double (choice 64 maxUnsigned_eq)⟩

/-- Settles O38, by the LR law at 32 bits and at the 64 of RV64. -/
theorem loadReservedReservesItsBytes : Obligations.LoadReservedReservesItsBytes := by
  unfold Obligations.LoadReservedReservesItsBytes
  intro s rd rs1 aq rl a lr
  have reserves {w : Nat} {i : Instr} (hw : w ≤ s.cfg.xlen.bits) (h : exec i s = s.lr w rd rs1) : lr w i := by
    intro hacc
    obtain ⟨t, v, ht, done, value, reservation, memory⟩ := lr_completes hw h hacc
    exact ⟨t, v, ht, done.retired, done.readX_rd, value, reservation, done.sameX, done.sameF, done.fcsr, memory,
      done.cfg, done.extraCsrs, done.cycleLast, done.timeLast⟩
  exact ⟨reserves (by cases s.cfg.xlen <;> decide) rfl, fun h64 => reserves (by rw [h64]; decide) rfl⟩

/-- Settles O39, by the SC law: `scSucceeds` is a covering reservation and a draw that allows it. -/
theorem storeConditionalStoresOnlyUnderItsReservation :
    Obligations.StoreConditionalStoresOnlyUnderItsReservation := by
  unfold Obligations.StoreConditionalStoresOnlyUnderItsReservation
  intro s rd rs1 rs2 aq rl hwf a covered sc
  have conditional {w : Nat} {i : Instr} (hn : 0 < w / 8) (size : w / 8 ≤ 2 ^ 32)
      (h : exec i s = s.sc w rd rs1 rs2) : sc w i := by
    intro hacc
    have covered_iff : s.reserved a (w / 8) = true ↔ covered (w / 8) := State.reserved_iff_reservationCovers hn
    obtain ⟨t, v, ht, done, reservation, outcome⟩ := sc_completes hwf size h hacc
    refine ⟨t, ht, done.retired, reservation, done.sameX, done.sameF, done.fcsr, done.cfg, done.extraCsrs,
      done.cycleLast, done.timeLast, fun hcov => ?_, fun hcov => ?_⟩
    · rwa [State.scSucceeds, covered_iff.2 hcov, Bool.true_and] at outcome
    · rw [← covered_iff, Bool.not_eq_true] at hcov
      rwa [State.scSucceeds, hcov, Bool.false_and] at outcome
  exact ⟨conditional (by decide) (by decide) rfl, fun _ => conditional (by decide) (by decide) rfl⟩

end Sys2Proof.Machine
end

section
/-! The proofs of O42 and O43: moves copy a register's bits, loads and stores a value's bytes, and neither looks at
what they hold (R373 to R376, R380 to R385). -/

namespace Sys2Proof.Machine

/-- The extension that brings a format (R40). -/
def Fmt.letter : Fmt → Letter
  | .s => .F
  | .d => .D
  | .q => .Q

/-- An instruction whose row demands a format's letter exists only where `FLEN` has room for the format (R40). -/
theorem Fmt.width_le_flen {m : Fmt} {i : Instr} {c : Config} (hi : i.wellFormed c = true)
    (hm : m.letter ∈ (i.row c.xlen).ext) : m.width ≤ c.flen := by
  obtain ⟨-, hext, -⟩ := Instr.wellFormed_iff.1 hi
  cases m with
  | s => exact flen_of_f c
  | d => exact flen_of_d (hext _ hm)
  | q => exact flen_of_q (hext _ hm)

/-- An instruction whose row is of RV64 alone exists under no other `XLEN` (R100). -/
theorem rv64_of_wellFormed {i : Instr} {c : Config} (hi : i.wellFormed c = true)
    (h64 : (i.row c.xlen).widths = .only64) : c.xlen = .rv64 := by
  obtain ⟨hwidth, -⟩ := Instr.wellFormed_iff.1 hi
  rw [h64] at hwidth
  cases hx : c.xlen with
  | rv64 => rfl
  | rv32 =>
    rw [hx] at hwidth
    cases hwidth

/-- Settles O42: each of the four writes its operand's bits; FMV.X.S's 32 are sign-extended, and FMV.X.D's 64 fill
the register of RV64. -/
theorem movesCopyBits : Obligations.MovesCopyBits := by
  unfold Obligations.MovesCopyBits
  intro s rd rs1
  refine ⟨fun hi => completesF_of_finishF (Fmt.width_le_flen hi List.mem_cons_self) rfl,
    fun hi => completesF_of_finishF (Fmt.width_le_flen hi List.mem_cons_self) rfl,
    completesX_of_finishX rfl ?_, fun hi => completesX_of_finishX rfl ?_⟩
  · rw [xsigned_xtrunc]
    exact xsigned_xsext (by cases s.cfg.xlen <;> decide) _
  · rw [rv64_of_wellFormed hi rfl]
    exact BitVec.toNat_setWidth ..

/-- Settles O43: each of the six is `loadF` or `storeF` of its format at the effective address. -/
theorem floatingPointLoadsAndStoresMoveBits : Obligations.FloatingPointLoadsAndStoresMoveBits := by
  unfold Obligations.FloatingPointLoadsAndStoresMoveBits
  intro s rd rs1 rs2 imm hwf a load store
  have ha : xtrunc s.cfg.xlen a = a := s.ea_xtrunc rs1 imm
  have loads {i : Instr} {m : Fmt} (hm : m.letter ∈ (i.row s.cfg.xlen).ext) (h : exec i s = s.loadF 4 m rd a) :
      load i m := fun hi => completesF_of_loadF (Fmt.width_le_flen hi hm) ha h
  have stores {i : Instr} {m : Fmt} (h : exec i s = s.storeF 4 m a rs2) : store i m :=
    fun _ => completesStore_of_storeF hwf ha h
  exact ⟨loads List.mem_cons_self rfl, loads List.mem_cons_self rfl, loads List.mem_cons_self rfl,
    stores rfl, stores rfl, stores rfl⟩

end Sys2Proof.Machine
end

section
/-! The bit patterns of a format and the numbers they stand for (R371): what `unpack` gives for a sign and a
magnitude, and that a larger magnitude stands for a larger number. -/

namespace Sys2Proof.Machine

/-! ### The sizes of the fields -/

theorem Fmt.width_sub_one (m : Fmt) : m.width - 1 = m.expBits + m.fracBits := by cases m <;> rfl

theorem Fmt.width_le (m : Fmt) : m.width ≤ 128 := by cases m <;> decide

theorem Fmt.maxExp_pos (m : Fmt) : 0 < m.maxExp := by cases m <;> decide

theorem Fmt.bias_pos (m : Fmt) : 0 < m.bias := by cases m <;> decide

theorem Fmt.maxExp_add_one_mul (m : Fmt) : (m.maxExp + 1) * 2 ^ m.fracBits = 2 ^ (m.width - 1) := by
  rw [Fmt.width_sub_one, pow_add, Fmt.maxExp, Nat.sub_add_cancel Nat.one_le_two_pow]

/-- The magnitudes of infinities and NaNs begin at this one; those below it are finite. -/
def Fmt.infMagnitude (m : Fmt) : Nat := m.maxExp * 2 ^ m.fracBits

theorem Fmt.infMagnitude_pos (m : Fmt) : 0 < m.infMagnitude := Nat.mul_pos m.maxExp_pos (Nat.two_pow_pos _)

theorem Fmt.infMagnitude_lt (m : Fmt) : m.infMagnitude < 2 ^ (m.width - 1) := by
  rw [← Fmt.maxExp_add_one_mul, Fmt.infMagnitude]
  exact Nat.mul_lt_mul_of_pos_right (Nat.lt_succ_self _) (Nat.two_pow_pos _)

theorem Fmt.div_lt_maxExp_iff {m : Fmt} {M : Nat} : M / 2 ^ m.fracBits < m.maxExp ↔ M < m.infMagnitude :=
  Nat.div_lt_iff_lt_mul (Nat.two_pow_pos _)

/-! ### Sign and magnitude of a packed value -/

section
variable {m : Fmt} {neg : Bool} {M : Nat}

theorem Fmt.sign_pack (hM : M < 2 ^ (m.width - 1)) : m.sign (m.pack neg M) = neg := by
  have hbit : m.width - 1 < 128 := by cases m <;> decide
  rw [Fmt.sign, Fmt.pack, BitVec.getLsbD_ofNat, decide_eq_true hbit, Bool.true_and]
  cases neg with
  | false => exact Nat.testBit_lt_two_pow hM
  | true => rw [if_pos rfl, Nat.add_comm, Nat.testBit_two_pow_add_eq, Nat.testBit_lt_two_pow hM, Bool.not_false]

theorem Fmt.magnitude_pack (hM : M < 2 ^ (m.width - 1)) : m.magnitude (m.pack neg M) = M := by
  have hdvd : 2 ^ (m.width - 1) ∣ 2 ^ 128 := pow_dvd_pow 2 ((Nat.sub_le _ _).trans m.width_le)
  rw [Fmt.magnitude, Fmt.pack, BitVec.toNat_ofNat, Nat.mod_mod_of_dvd _ hdvd]
  cases neg with
  | false => exact Nat.mod_eq_of_lt hM
  | true => rw [if_pos rfl, Nat.add_mod_right, Nat.mod_eq_of_lt hM]

end

/-! ### What a pattern stands for -/

/-- The integer that a finite magnitude has as its significand, the hidden bit with it. -/
def Fmt.significand (m : Fmt) (M : Nat) : Nat :=
  if M / 2 ^ m.fracBits = 0 then M % 2 ^ m.fracBits else M % 2 ^ m.fracBits + 2 ^ m.fracBits

/-- The exponent of the significand's lowest bit. -/
def Fmt.exponent (m : Fmt) (M : Nat) : Int := m.minLsb + (M / 2 ^ m.fracBits - 1 : Nat)

section
variable {m : Fmt} {v : FWord} {neg : Bool} {M : Nat}

theorem Fmt.unpack_of_lt (h : m.magnitude v < m.infMagnitude) :
    m.unpack v = .finite (m.sign v) (m.significand (m.magnitude v)) (m.exponent (m.magnitude v)) := by
  have he : m.magnitude v / 2 ^ m.fracBits ≠ m.maxExp := (Fmt.div_lt_maxExp_iff.2 h).ne
  simp only [Fmt.unpack, if_neg he, Fmt.significand, Fmt.exponent]
  split
  · next hzero => simp [hzero]
  · rfl

/-- A pattern is finite only below the magnitudes of infinities and NaNs. -/
theorem Fmt.unpack_eq_finite {k : Nat} {e : Int} (h : m.unpack v = .finite neg k e) :
    m.magnitude v < m.infMagnitude ∧ k = m.significand (m.magnitude v) ∧ e = m.exponent (m.magnitude v) := by
  have hlt : m.magnitude v < m.infMagnitude := by
    have hle : m.magnitude v / 2 ^ m.fracBits < m.maxExp + 1 := by
      rw [Nat.div_lt_iff_lt_mul (Nat.two_pow_pos _), Fmt.maxExp_add_one_mul]
      exact Nat.mod_lt _ (Nat.two_pow_pos _)
    have hne : m.magnitude v / 2 ^ m.fracBits ≠ m.maxExp := by
      intro heq
      simp only [Fmt.unpack, if_pos heq] at h
      split at h <;> cases h
    exact Fmt.div_lt_maxExp_iff.1 (by omega)
  rw [Fmt.unpack_of_lt hlt, FVal.finite.injEq] at h
  obtain ⟨-, rfl, rfl⟩ := h
  exact ⟨hlt, rfl, rfl⟩

theorem Fmt.unpack_pack (hM : M < m.infMagnitude) :
    m.unpack (m.pack neg M) = .finite neg (m.significand M) (m.exponent M) := by
  have hfits := hM.trans m.infMagnitude_lt
  rw [Fmt.unpack_of_lt (by rwa [Fmt.magnitude_pack hfits]), Fmt.magnitude_pack hfits, Fmt.sign_pack hfits]

theorem Fmt.unpack_infinity : m.unpack (m.infinity neg) = .inf neg := by
  have hmag : m.magnitude (m.infinity neg) = m.maxExp * 2 ^ m.fracBits := Fmt.magnitude_pack m.infMagnitude_lt
  have hsign : m.sign (m.infinity neg) = neg := Fmt.sign_pack m.infMagnitude_lt
  have hexp : m.maxExp * 2 ^ m.fracBits / 2 ^ m.fracBits = m.maxExp := Nat.mul_div_cancel _ (Nat.two_pow_pos _)
  simp only [Fmt.unpack, hmag, hsign, hexp, Nat.mul_mod_left, if_true]

theorem Fmt.givesInfinity_infinity (m : Fmt) (neg : Bool) : m.givesInfinity (m.infinity neg, noFlags) neg :=
  ⟨rfl, Fmt.unpack_infinity⟩

theorem Fmt.givesZero_zero (m : Fmt) (neg : Bool) : m.givesZero (m.zero neg, noFlags) (neg = true) := by
  have hzero : m.significand 0 = 0 := by simp [Fmt.significand]
  exact ⟨rfl, neg, m.exponent 0, by rw [Fmt.zero, Fmt.unpack_pack m.infMagnitude_pos, hzero], Iff.rfl⟩

/-! ### The significand and the exponent of a finite value -/

theorem Fmt.significand_lt (m : Fmt) (M : Nat) : m.significand M < 2 ^ (m.fracBits + 1) := by
  have := Nat.mod_lt M (Nat.two_pow_pos m.fracBits)
  rw [Fmt.significand, pow_succ]
  split <;> omega

theorem Fmt.minLsb_le_exponent (m : Fmt) (M : Nat) : m.minLsb ≤ m.exponent M := by
  rw [Fmt.exponent]
  omega

theorem Fmt.exponent_le (hM : M < m.infMagnitude) : m.exponent M ≤ (m.bias : Int) - m.fracBits := by
  have hmax : m.maxExp = 2 * m.bias + 1 := by cases m <;> rfl
  have hbias := m.bias_pos
  have := Fmt.div_lt_maxExp_iff.2 hM
  rw [Fmt.exponent, Fmt.minLsb]
  omega

end

/-! ### Magnitudes in order -/

/-- The number a finite magnitude stands for. -/
def Fmt.magnitudeValue (m : Fmt) (M : Nat) : Rat := m.significand M * 2 ^ m.exponent M

/-- The magnitude of `n * 2^lsb`, for a last place `lsb` of the format. -/
def Fmt.placed (m : Fmt) (lsb : Int) (n : Nat) : Nat := (lsb - m.minLsb).toNat * 2 ^ m.fracBits + n

/-- `n * 2^lsb` is what `placed` says, where `n` has no more bits than a significand, and no fewer but in the
lowest place. The power of two just above is the next binade's. -/
theorem Fmt.magnitudeValue_placed {m : Fmt} {lsb : Int} {n : Nat} (hlsb : m.minLsb ≤ lsb)
    (hle : n ≤ 2 ^ (m.fracBits + 1)) (hge : lsb = m.minLsb ∨ 2 ^ m.fracBits ≤ n) :
    m.magnitudeValue (m.placed lsb n) = n * 2 ^ lsb := by
  obtain ⟨E, rfl⟩ : ∃ E : Nat, lsb = m.minLsb + E := ⟨(lsb - m.minLsb).toNat, by omega⟩
  have hP : 0 < 2 ^ m.fracBits := Nat.two_pow_pos _
  have hplaced : m.placed (m.minLsb + E) n = n + 2 ^ m.fracBits * E := by
    rw [Fmt.placed, add_sub_cancel_left, Int.toNat_natCast, Nat.mul_comm, Nat.add_comm]
  rw [hplaced, Fmt.magnitudeValue, Fmt.significand, Fmt.exponent, Nat.add_mul_div_left _ _ hP,
    Nat.add_mul_mod_self_left]
  rcases Nat.lt_or_ge n (2 ^ m.fracBits) with hsmall | hbig
  case inl =>
    obtain rfl : E = 0 := by omega
    simp [Nat.div_eq_of_lt hsmall, Nat.mod_eq_of_lt hsmall]
  rcases hle.lt_or_eq with hlt | rfl
  · obtain ⟨f, rfl⟩ := Nat.exists_eq_add_of_le hbig
    have hf : f < 2 ^ m.fracBits := by omega
    rw [Nat.add_div_left _ hP, Nat.add_mod_left, Nat.div_eq_of_lt hf, Nat.mod_eq_of_lt hf, if_neg (by omega),
      Nat.add_comm f]
    congr 3
    omega
  · have hdiv : 2 ^ (m.fracBits + 1) / 2 ^ m.fracBits = 2 := by rw [pow_succ, Nat.mul_div_cancel_left _ hP]
    have hmod : 2 ^ (m.fracBits + 1) % 2 ^ m.fracBits = 0 := by rw [pow_succ, Nat.mul_mod_right]
    have hexp : m.minLsb + ((2 + E - 1 : Nat) : Int) = 1 + (m.minLsb + E) := by omega
    rw [hdiv, hmod, if_neg (by omega), hexp, zpow_add₀ two_ne_zero, zpow_one]
    push_cast
    ring

/-- The next magnitude stands for one unit more in the last place. -/
theorem Fmt.magnitudeValue_strictMono (m : Fmt) : StrictMono m.magnitudeValue := by
  refine strictMono_nat_of_lt_succ fun M => ?_
  obtain ⟨E, n, hM, hn, hE⟩ : ∃ E n : Nat, M = E * 2 ^ m.fracBits + n ∧ n < 2 ^ (m.fracBits + 1) ∧
      (E = 0 ∨ 2 ^ m.fracBits ≤ n) := by
    have hdiv := Nat.div_add_mod' M (2 ^ m.fracBits)
    have hmod := Nat.mod_lt M (Nat.two_pow_pos m.fracBits)
    cases he : M / 2 ^ m.fracBits with
    | zero => exact ⟨0, M, by omega, by rw [he] at hdiv; rw [pow_succ]; omega, .inl rfl⟩
    | succ e =>
      rw [he, Nat.succ_mul] at hdiv
      exact ⟨e, M % 2 ^ m.fracBits + 2 ^ m.fracBits, by omega, by rw [pow_succ]; omega, .inr (Nat.le_add_left _ _)⟩
  have hlsb : m.minLsb ≤ m.minLsb + E := by omega
  have hplaced (k : Nat) : m.placed (m.minLsb + E) k = E * 2 ^ m.fracBits + k := by
    rw [Fmt.placed, add_sub_cancel_left, Int.toNat_natCast]
  have here := Fmt.magnitudeValue_placed hlsb hn.le (hE.imp_left (by simp [·]))
  have next := Fmt.magnitudeValue_placed (n := n + 1) hlsb hn (hE.imp (by simp [·]) (by omega))
  rw [hplaced] at here next
  rw [hM, Nat.add_assoc, here, next]
  exact mul_lt_mul_of_pos_right (by exact_mod_cast Nat.lt_succ_self n) (zpow_pos two_pos _)

end Sys2Proof.Machine
end

section
/-! What `Fmt.round` gives (R421): `mant * 2^exp` is rounded at its last place, the result's magnitude is that many
last places, and it overflows, is inexact and is tiny just where the numbers say so. -/

namespace Sys2Proof.Machine

/-! ### The number itself, between two powers of two -/

section
variable {neg : Bool} {mant : Nat} {exp : Int}

theorem abs_toRat_finite (neg : Bool) (mant : Nat) (exp : Int) :
    |(FVal.finite neg mant exp).toRat| = mant * 2 ^ exp := by
  have hpos : (0 : Rat) ≤ mant * 2 ^ exp := by positivity
  rw [← abs_signFactor_mul neg hpos, ← mul_assoc]
  rfl

theorem toRat_finite_neg_iff (hmant : mant ≠ 0) : (FVal.finite neg mant exp).toRat < 0 ↔ neg = true := by
  have hpos : (0 : Rat) < mant * 2 ^ exp := by positivity
  cases neg with
  | false => simpa [FVal.toRat] using hpos.le
  | true => simpa [FVal.toRat] using hpos

theorem toRat_finite_pos_iff (hmant : mant ≠ 0) : 0 < (FVal.finite neg mant exp).toRat ↔ neg = false := by
  have hpos : (0 : Rat) < mant * 2 ^ exp := by positivity
  cases neg with
  | false => simpa [FVal.toRat] using hpos
  | true => simpa [FVal.toRat] using hpos.le

/-- The exponent of the highest bit of `mant * 2^exp`. -/
def topOf (mant : Nat) (exp : Int) : Int := exp + Nat.log2 mant

theorem two_zpow_topOf_le (hmant : mant ≠ 0) : (2 : Rat) ^ topOf mant exp ≤ mant * 2 ^ exp := by
  rw [topOf, add_comm, zpow_add₀ two_ne_zero, zpow_natCast]
  exact mul_le_mul_of_nonneg_right (by exact_mod_cast Nat.log2_self_le hmant) (zpow_pos two_pos _).le

theorem lt_two_zpow_topOf_add_one (mant : Nat) (exp : Int) : (mant : Rat) * 2 ^ exp < 2 ^ (topOf mant exp + 1) := by
  have hexp : topOf mant exp + 1 = ((mant.log2 + 1 : Nat) : Int) + exp := by
    rw [topOf]
    push_cast
    ring
  rw [hexp, zpow_add₀ two_ne_zero, zpow_natCast]
  exact mul_lt_mul_of_pos_right (by exact_mod_cast Nat.lt_log2_self) (zpow_pos two_pos _)

end

/-! ### Rounding at a place -/

section
variable {mode : Rounding} {neg : Bool} {mant : Nat} {exp lsb : Int}

theorem roundAt_exact_iff : (roundAt mode neg mant exp lsb).2 = false ↔
    (FVal.finite neg (roundAt mode neg mant exp lsb).1 lsb).toRat = (FVal.finite neg mant exp).toRat :=
  (roundingModesRoundAsNamed mode neg mant exp lsb).1

theorem roundAt_dist_lt (mode : Rounding) (neg : Bool) (mant : Nat) (exp lsb : Int) :
    |((roundAt mode neg mant exp lsb).1 : Rat) * 2 ^ lsb - mant * 2 ^ exp| < 2 ^ lsb := by
  obtain ⟨-, hdist, -⟩ := roundingModesRoundAsNamed mode neg mant exp lsb
  refine lt_of_le_of_lt ?_ hdist
  rw [← abs_toRat_finite neg, ← abs_toRat_finite neg]
  exact abs_abs_sub_abs_le _ _

/-- Rounding at a place no lower than `K` below the top leaves no more than `2^K`. -/
theorem roundAt_le_two_pow {K : Nat} (h : topOf mant exp + 1 ≤ K + lsb) :
    (roundAt mode neg mant exp lsb).1 ≤ 2 ^ K := by
  have hdist := (abs_lt.1 (roundAt_dist_lt mode neg mant exp lsb)).2
  have hulp : (0 : Rat) < 2 ^ lsb := zpow_pos two_pos _
  have hmant : (mant : Rat) * 2 ^ exp < 2 ^ K * 2 ^ lsb := by
    refine (lt_two_zpow_topOf_add_one mant exp).trans_le ?_
    rw [← zpow_natCast, ← zpow_add₀ two_ne_zero]
    exact zpow_le_zpow_right₀ one_le_two h
  have hlt : ((roundAt mode neg mant exp lsb).1 : Rat) * 2 ^ lsb < (2 ^ K + 1) * 2 ^ lsb := by linarith
  exact Nat.lt_succ_iff.1 (by exact_mod_cast lt_of_mul_lt_mul_right hlt hulp.le)

/-- Rounding at a place no higher than `K` below the top leaves no less than `2^K`. -/
theorem two_pow_le_roundAt {K : Nat} (hmant : mant ≠ 0) (h : K + lsb ≤ topOf mant exp) :
    2 ^ K ≤ (roundAt mode neg mant exp lsb).1 := by
  have hdist := (abs_lt.1 (roundAt_dist_lt mode neg mant exp lsb)).1
  have hulp : (0 : Rat) < 2 ^ lsb := zpow_pos two_pos _
  have hmant : (2 : Rat) ^ K * 2 ^ lsb ≤ mant * 2 ^ exp := by
    refine le_trans ?_ (two_zpow_topOf_le hmant)
    rw [← zpow_natCast, ← zpow_add₀ two_ne_zero]
    exact zpow_le_zpow_right₀ one_le_two h
  have hlt : (2 : Rat) ^ K * 2 ^ lsb < ((roundAt mode neg mant exp lsb).1 + 1) * 2 ^ lsb := by linarith
  exact Nat.lt_succ_iff.1 (by exact_mod_cast lt_of_mul_lt_mul_right hlt hulp.le)

theorem ratCast_two_zpow (k : Int) : ((2 ^ k : Rat) : Real) = 2 ^ k := by
  push_cast
  rfl

/-- The rounding of a rational number, over the reals. -/
theorem roundsTo_ratCast {mode : Rounding} {lsb : Int} {x y : Rat} (n : Int) (hy : y = n * 2 ^ lsb)
    (hdist : |y - x| < 2 ^ lsb)
    (hrne : mode = .rne → |y - x| ≤ 2 ^ lsb / 2 ∧ (|y - x| = 2 ^ lsb / 2 → n % 2 = 0))
    (hrmm : mode = .rmm → |y - x| ≤ 2 ^ lsb / 2 ∧ (|y - x| = 2 ^ lsb / 2 → |x| < |y|))
    (hrtz : mode = .rtz → |y| ≤ |x|) (hrdn : mode = .rdn → y ≤ x) (hrup : mode = .rup → x ≤ y) :
    roundsTo mode lsb (x : Real) (y : Real) := by
  rw [roundsTo, ← ratCast_two_zpow]
  refine ⟨n, by exact_mod_cast hy, by exact_mod_cast hdist, by exact_mod_cast hrne, by exact_mod_cast hrmm,
    by exact_mod_cast hrtz, by exact_mod_cast hrdn, by exact_mod_cast hrup⟩

/-- `roundAt` in the words of Safety.lean. -/
theorem roundsTo_roundAt (mode : Rounding) (neg : Bool) (mant : Nat) (exp lsb : Int) :
    roundsTo mode lsb ((FVal.finite neg mant exp).toRat : Real)
      ((FVal.finite neg (roundAt mode neg mant exp lsb).1 lsb).toRat : Real) := by
  obtain ⟨-, hdist, rne, rmm, rtz, rdn, rup⟩ := roundingModesRoundAsNamed mode neg mant exp lsb
  refine roundsTo_ratCast (if neg then -(roundAt mode neg mant exp lsb).1 else (roundAt mode neg mant exp lsb).1)
    ?_ hdist (fun h => ?_) rmm rtz rdn rup
  · cases neg <;> simp [FVal.toRat]
  · obtain ⟨near, tie⟩ := rne h
    refine ⟨near, fun he => ?_⟩
    have := tie he
    split <;> omega

end

/-! ### The parts of `Fmt.round` -/

/-- The lowest place a format keeps of a number whose highest bit is at `top`. -/
def Fmt.lastPlace (m : Fmt) (top : Int) : Int := max (top - m.fracBits) m.minLsb

/-- `mant * 2^exp` in last places, rounded, and whether it is inexact. -/
def Fmt.roundedPlaces (m : Fmt) (mode : Rounding) (neg : Bool) (mant : Nat) (exp : Int) : Nat × Bool :=
  roundAt mode neg mant exp (m.lastPlace (topOf mant exp))

/-- `mant * 2^exp` rounded at the format's last place: the `y` of `Fmt.rounds`. -/
def Fmt.roundedValue (m : Fmt) (mode : Rounding) (neg : Bool) (mant : Nat) (exp : Int) : FVal :=
  .finite neg (m.roundedPlaces mode neg mant exp).1 (m.lastPlace (topOf mant exp))

/-- The magnitude of that value. -/
def Fmt.roundedMagnitude (m : Fmt) (mode : Rounding) (neg : Bool) (mant : Nat) (exp : Int) : Nat :=
  m.placed (m.lastPlace (topOf mant exp)) (m.roundedPlaces mode neg mant exp).1

/-- The places kept were the exponent unbounded. -/
def Fmt.unboundedPlaces (m : Fmt) (mode : Rounding) (neg : Bool) (mant : Nat) (exp : Int) : Nat :=
  (roundAt mode neg mant exp (topOf mant exp - m.fracBits)).1

/-- `mant * 2^exp` rounded as though the exponent were unbounded: the `z` of `Fmt.rounds`. -/
def Fmt.unboundedValue (m : Fmt) (mode : Rounding) (neg : Bool) (mant : Nat) (exp : Int) : FVal :=
  .finite neg (m.unboundedPlaces mode neg mant exp) (topOf mant exp - m.fracBits)

/-- Tiny after rounding (R371). -/
def Fmt.isTiny (m : Fmt) (mode : Rounding) (neg : Bool) (mant : Nat) (exp : Int) : Bool :=
  decide (topOf mant exp < 1 - (m.bias : Int)) &&
    !(decide (topOf mant exp + 1 = 1 - (m.bias : Int)) &&
      decide (m.unboundedPlaces mode neg mant exp = 2 ^ (m.fracBits + 1)))

/-- The largest finite number of a format (R371). -/
def Fmt.largestRat (m : Fmt) : Rat := ((2 : Rat) ^ (m.fracBits + 1) - 1) * 2 ^ ((m.bias : Int) - m.fracBits)

/-- The modes and signs under which an overflow gives an infinity (R421). -/
def Rounding.ToInfinity (mode : Rounding) (neg : Bool) : Prop :=
  mode = .rne ∨ mode = .rmm ∨ (mode = .rdn ∧ neg = true) ∨ (mode = .rup ∧ neg = false)

section
variable {m : Fmt} {mode : Rounding} {neg : Bool} {mant : Nat} {exp : Int}

theorem Fmt.round_eq : m.round mode neg mant exp =
    if m.infMagnitude ≤ m.roundedMagnitude mode neg mant exp then (m.overflow mode neg, flagOF ||| flagNX)
    else (m.pack neg (m.roundedMagnitude mode neg mant exp), flagIf (m.roundedPlaces mode neg mant exp).2 flagNX |||
      flagIf (m.isTiny mode neg mant exp && (m.roundedPlaces mode neg mant exp).2) flagUF) := rfl

theorem Fmt.roundedPlaces_exact_iff : (m.roundedPlaces mode neg mant exp).2 = false ↔
    (m.roundedValue mode neg mant exp).toRat = (FVal.finite neg mant exp).toRat := roundAt_exact_iff

theorem Fmt.magnitudeValue_roundedMagnitude (hmant : mant ≠ 0) :
    m.magnitudeValue (m.roundedMagnitude mode neg mant exp) = |(m.roundedValue mode neg mant exp).toRat| := by
  rw [Fmt.roundedValue, abs_toRat_finite]
  refine Fmt.magnitudeValue_placed (le_max_right _ _) (roundAt_le_two_pow ?_) ?_
  · have := le_max_left (topOf mant exp - m.fracBits) m.minLsb
    rw [Fmt.lastPlace]
    omega
  · rcases max_choice (topOf mant exp - m.fracBits) m.minLsb with hwide | hmin
    · exact .inr (two_pow_le_roundAt hmant (by rw [Fmt.lastPlace, hwide]; omega))
    · exact .inl hmin

theorem toRat_eq_signFactor_mul_abs (neg : Bool) (mant : Nat) (exp : Int) :
    (FVal.finite neg mant exp).toRat = signFactor neg * |(FVal.finite neg mant exp).toRat| := by
  rw [abs_toRat_finite, ← mul_assoc]
  rfl

/-- A finite pattern stands for its magnitude's number, of its sign. -/
theorem Fmt.standsFor_pack {M : Nat} {P : Prop} (hM : M < m.infMagnitude) (hneg : neg = true ↔ P) :
    m.standsFor (m.pack neg M) P ((signFactor neg * m.magnitudeValue M : Rat) : Real) :=
  ⟨neg, _, _, Fmt.unpack_pack hM, hneg, by rw [Fmt.magnitudeValue, ← mul_assoc]; rfl⟩

/-! ### The largest number, and overflow -/

theorem Fmt.magnitudeValue_largest (m : Fmt) : m.magnitudeValue (m.infMagnitude - 1) = m.largestRat := by
  have hplaced : m.infMagnitude - 1 = m.placed ((m.bias : Int) - m.fracBits) (2 ^ (m.fracBits + 1) - 1) := by
    cases m <;> decide
  have hge : 2 ^ m.fracBits ≤ 2 ^ (m.fracBits + 1) - 1 := by cases m <;> decide
  rw [hplaced, Fmt.magnitudeValue_placed (by cases m <;> decide) (Nat.sub_le _ _) (.inr hge),
    Nat.cast_sub Nat.one_le_two_pow, Fmt.largestRat]
  push_cast
  rfl

theorem Fmt.infMagnitude_le_iff {M : Nat} : m.infMagnitude ≤ M ↔ m.largestRat < m.magnitudeValue M := by
  have := m.infMagnitude_pos
  rw [← Fmt.magnitudeValue_largest, m.magnitudeValue_strictMono.lt_iff_lt]
  omega

theorem Fmt.overflow_of_toInfinity (h : mode.ToInfinity neg) : m.overflow mode neg = m.infinity neg := by
  rcases h with rfl | rfl | ⟨rfl, rfl⟩ | ⟨rfl, rfl⟩ <;> rfl

theorem Fmt.overflow_of_not_toInfinity (h : ¬ mode.ToInfinity neg) : m.overflow mode neg = m.largest neg := by
  cases mode with
  | rne | rmm => exact absurd (by simp [Rounding.ToInfinity]) h
  | rtz => rfl
  | rdn | rup => cases neg <;> simp [Rounding.ToInfinity, Fmt.overflow] at h ⊢

theorem Fmt.standsFor_largest {P : Prop} [Decidable P] (hneg : neg = true ↔ P) :
    m.standsFor (m.largest neg) P (if P then -(m.largestRat : Real) else m.largestRat) := by
  have stands := Fmt.standsFor_pack (Nat.sub_one_lt m.infMagnitude_pos.ne') hneg
  rw [Fmt.magnitudeValue_largest, signFactor] at stands
  rw [show m.largest neg = m.pack neg (m.infMagnitude - 1) from rfl]
  by_cases hP : P
  · simpa only [if_pos (hneg.2 hP), if_pos hP, Rat.cast_neg, neg_mul, one_mul] using stands
  · simpa only [if_neg (mt hneg.1 hP), if_neg hP, one_mul] using stands

/-- A result beyond the largest finite number (R421). -/
theorem Fmt.round_of_overflow (hmant : mant ≠ 0) (h : m.largestRat < |(m.roundedValue mode neg mant exp).toRat|) :
    m.round mode neg mant exp = (m.overflow mode neg, flagOF ||| flagNX) := by
  rw [← magnitudeValue_roundedMagnitude hmant, ← Fmt.infMagnitude_le_iff] at h
  rw [Fmt.round_eq, if_pos h]

/-! ### Results that do not overflow -/

/-- A significand's number against a power of two: below it where its binade is, unless it is the power above. -/
theorem mul_two_zpow_lt_iff {K u : Nat} {lsb k : Int} (hge : 2 ^ K ≤ u) (hle : u ≤ 2 ^ (K + 1)) :
    (u : Rat) * 2 ^ lsb < 2 ^ k ↔ K + lsb < k ∧ ¬ (K + lsb + 1 = k ∧ u = 2 ^ (K + 1)) := by
  have hulp : (0 : Rat) < 2 ^ lsb := zpow_pos two_pos _
  have hpow (n : Nat) : (2 : Rat) ^ (n + lsb) = (2 ^ n : Nat) * 2 ^ lsb := by
    rw [zpow_add₀ two_ne_zero, zpow_natCast]
    norm_num
  rcases lt_trichotomy ((K + 1 : Nat) + lsb) k with hlt | rfl | hgt
  · refine iff_of_true ?_ (by push_cast at hlt; omega)
    calc (u : Rat) * 2 ^ lsb ≤ (2 ^ (K + 1) : Nat) * 2 ^ lsb := (cast_mul_le hulp).2 hle
      _ = 2 ^ ((K + 1 : Nat) + lsb) := (hpow _).symm
      _ < 2 ^ k := zpow_lt_zpow_right₀ one_lt_two hlt
  · rw [hpow, mul_lt_mul_iff_left₀ hulp, Nat.cast_lt]
    push_cast
    omega
  · refine iff_of_false (not_lt.2 ?_) (by push_cast at hgt; omega)
    calc (2 : Rat) ^ k ≤ 2 ^ (K + lsb) := zpow_le_zpow_right₀ one_le_two (by push_cast at hgt; omega)
      _ = (2 ^ K : Nat) * 2 ^ lsb := hpow _
      _ ≤ u * 2 ^ lsb := (cast_mul_le hulp).2 hge

/-- Tininess is of the number rounded as though the exponent were unbounded (R371). -/
theorem Fmt.isTiny_iff (hmant : mant ≠ 0) : m.isTiny mode neg mant exp = true ↔
    |(m.unboundedValue mode neg mant exp).toRat| < 2 ^ (1 - (m.bias : Int)) := by
  have hge : 2 ^ m.fracBits ≤ m.unboundedPlaces mode neg mant exp := two_pow_le_roundAt hmant (by omega)
  have hle : m.unboundedPlaces mode neg mant exp ≤ 2 ^ (m.fracBits + 1) := roundAt_le_two_pow (by push_cast; omega)
  rw [Fmt.unboundedValue, abs_toRat_finite, mul_two_zpow_lt_iff hge hle, add_sub_cancel]
  simp only [Fmt.isTiny, Bool.and_eq_true, Bool.not_eq_true', Bool.and_eq_false_iff, decide_eq_true_eq,
    decide_eq_false_iff_not, not_and_or]

/-- A result no larger than the largest finite number stands for the rounded number (R421). -/
theorem Fmt.round_standsFor (hmant : mant ≠ 0) (h : |(m.roundedValue mode neg mant exp).toRat| ≤ m.largestRat)
    {P : Prop} (hneg : neg = true ↔ P) :
    m.standsFor (m.round mode neg mant exp).1 P ((m.roundedValue mode neg mant exp).toRat : Real) := by
  rw [← magnitudeValue_roundedMagnitude hmant, ← not_lt, ← Fmt.infMagnitude_le_iff] at h
  have stands := Fmt.standsFor_pack (not_le.1 h) hneg
  rw [Fmt.magnitudeValue_roundedMagnitude hmant, Fmt.roundedValue, ← toRat_eq_signFactor_mul_abs] at stands
  rwa [Fmt.round_eq, if_neg h]

/-- It raises NX where it is inexact, and UF beside it where it is tiny (R421). -/
theorem Fmt.round_flags (hmant : mant ≠ 0) (h : |(m.roundedValue mode neg mant exp).toRat| ≤ m.largestRat) :
    ((m.roundedValue mode neg mant exp).toRat = (FVal.finite neg mant exp).toRat →
        (m.round mode neg mant exp).2 = noFlags) ∧
      ((m.roundedValue mode neg mant exp).toRat ≠ (FVal.finite neg mant exp).toRat →
        |(m.unboundedValue mode neg mant exp).toRat| < 2 ^ (1 - (m.bias : Int)) →
        (m.round mode neg mant exp).2 = flagUF ||| flagNX) ∧
      ((m.roundedValue mode neg mant exp).toRat ≠ (FVal.finite neg mant exp).toRat →
        2 ^ (1 - (m.bias : Int)) ≤ |(m.unboundedValue mode neg mant exp).toRat| →
        (m.round mode neg mant exp).2 = flagNX) := by
  rw [← magnitudeValue_roundedMagnitude hmant, ← not_lt, ← Fmt.infMagnitude_le_iff] at h
  rw [Fmt.round_eq, if_neg h]
  simp only [← Fmt.isTiny_iff hmant, ← not_lt, ne_eq, ← Fmt.roundedPlaces_exact_iff]
  cases (m.roundedPlaces mode neg mant exp).2 <;> cases m.isTiny mode neg mant exp <;> decide

/-- `Fmt.round` is the rounding of R421, of a number that is not zero. -/
theorem Fmt.rounds_round (hmant : mant ≠ 0) :
    m.rounds mode ((FVal.finite neg mant exp).toRat : Real) (m.round mode neg mant exp) := by
  have hneg : neg = true ↔ ((FVal.finite neg mant exp).toRat : Real) < 0 := by
    rw [Rat.cast_lt_zero, toRat_finite_neg_iff hmant]
  have hpos : neg = false ↔ 0 < ((FVal.finite neg mant exp).toRat : Real) := by
    rw [Rat.cast_pos, toRat_finite_pos_iff hmant]
  have toInfinity : mode.ToInfinity neg ↔ mode = .rne ∨ mode = .rmm ∨
      (mode = .rdn ∧ ((FVal.finite neg mant exp).toRat : Real) < 0) ∨
      (mode = .rup ∧ 0 < ((FVal.finite neg mant exp).toRat : Real)) := by
    rw [← hneg, ← hpos, Rounding.ToInfinity]
  have lower : (2 : Rat) ^ topOf mant exp ≤ |(FVal.finite neg mant exp).toRat| :=
    (two_zpow_topOf_le hmant).trans_eq (abs_toRat_finite neg mant exp).symm
  have upper : |(FVal.finite neg mant exp).toRat| < (2 : Rat) ^ (topOf mant exp + 1) :=
    (abs_toRat_finite neg mant exp).trans_lt (lt_two_zpow_topOf_add_one mant exp)
  have largest : m.largestReal m.largestRat := by
    rw [Fmt.largestReal, Fmt.largestRat]
    push_cast
    rfl
  refine ⟨topOf mant exp, (m.roundedValue mode neg mant exp).toRat, (m.unboundedValue mode neg mant exp).toRat,
    m.largestRat, ?_, ?_, roundsTo_roundAt .., roundsTo_roundAt .., largest, fun hover => ?_, fun hfinite => ?_⟩
  · rw [← ratCast_two_zpow]
    exact_mod_cast lower
  · rw [← ratCast_two_zpow]
    exact_mod_cast upper
  · rw [Fmt.round_of_overflow hmant (by exact_mod_cast hover)]
    refine ⟨rfl, fun h => ?_, fun h => ?_⟩ <;> rw [← toInfinity] at h
    · exact ⟨neg, by rw [Fmt.overflow_of_toInfinity h, Fmt.unpack_infinity], hneg⟩
    · rw [Fmt.overflow_of_not_toInfinity h]
      exact Fmt.standsFor_largest hneg
  · have hfinite : |(m.roundedValue mode neg mant exp).toRat| ≤ m.largestRat := by exact_mod_cast hfinite
    obtain ⟨exact, tiny, normal⟩ := Fmt.round_flags hmant hfinite
    rw [← ratCast_two_zpow]
    exact ⟨Fmt.round_standsFor hmant hfinite hneg, by exact_mod_cast exact, by exact_mod_cast tiny,
      by exact_mod_cast normal⟩

end

end Sys2Proof.Machine
end

section
/-! Where rounding does nothing, or nothing but round: a multiple of the last place is exact, a number below `2^bias`
does not overflow, and one of the smallest normal number or more is not tiny (R421). -/

namespace Sys2Proof.Machine

/-! ### Numbers that round to themselves, and results inside the range -/

section
variable {m : Fmt} {mode : Rounding} {neg : Bool} {mant : Nat} {exp lsb : Int}

/-- A multiple of the last place is no further than its own multiple from what it rounds to. -/
theorem roundAt_exact_of_multiple {k : Nat} (h : (mant : Rat) * 2 ^ exp = k * 2 ^ lsb) :
    (roundAt mode neg mant exp lsb).2 = false := by
  have hulp : (0 : Rat) < 2 ^ lsb := zpow_pos two_pos _
  have hdist := roundAt_dist_lt mode neg mant exp lsb
  rw [h, ← sub_mul, abs_mul, abs_of_pos hulp, mul_lt_iff_lt_one_left hulp] at hdist
  have hk : ((roundAt mode neg mant exp lsb).1 : Int) - k = 0 := Int.abs_lt_one_iff.1 (by exact_mod_cast hdist)
  have hk : (roundAt mode neg mant exp lsb).1 = k := by omega
  rw [roundAt_exact_iff, FVal.toRat, FVal.toRat, hk, mul_assoc, mul_assoc, h]

theorem roundAt_exact_of_le (h : lsb ≤ exp) : (roundAt mode neg mant exp lsb).2 = false := by
  apply roundAt_exact_of_multiple (k := mant * 2 ^ (exp - lsb).toNat)
  rw [two_zpow_eq h]
  push_cast
  ring

theorem Fmt.two_zpow_bias_le_largestRat (m : Fmt) : (2 : Rat) ^ (m.bias : Int) ≤ m.largestRat := by
  have hbias : (m.bias : Int) = m.fracBits + ((m.bias : Int) - m.fracBits) := by ring
  have hone : (1 : Rat) ≤ 2 ^ m.fracBits := one_le_pow₀ one_le_two
  conv_lhs => rw [hbias, zpow_add₀ two_ne_zero, zpow_natCast]
  rw [Fmt.largestRat]
  refine mul_le_mul_of_nonneg_right ?_ (zpow_pos two_pos _).le
  rw [pow_succ]
  linarith

/-- A number below `2^bias` does not overflow. -/
theorem Fmt.abs_roundedValue_le (h : topOf mant exp < m.bias) :
    |(m.roundedValue mode neg mant exp).toRat| ≤ m.largestRat := by
  have hplace : m.fracBits + 1 + m.lastPlace (topOf mant exp) ≤ (m.bias : Int) := by
    have := m.bias_pos
    rw [Fmt.lastPlace, Fmt.minLsb]
    omega
  have hplaces : (m.roundedPlaces mode neg mant exp).1 ≤ 2 ^ (m.fracBits + 1) := by
    refine roundAt_le_two_pow ?_
    rw [Fmt.lastPlace]
    omega
  calc |(m.roundedValue mode neg mant exp).toRat|
      = (m.roundedPlaces mode neg mant exp).1 * 2 ^ m.lastPlace (topOf mant exp) := abs_toRat_finite ..
    _ ≤ (2 ^ (m.fracBits + 1) : Nat) * 2 ^ m.lastPlace (topOf mant exp) :=
      (cast_mul_le (zpow_pos two_pos _)).2 hplaces
    _ = 2 ^ (m.fracBits + 1 + m.lastPlace (topOf mant exp)) := by
      rw [zpow_add₀ two_ne_zero]
      norm_cast
    _ ≤ 2 ^ (m.bias : Int) := zpow_le_zpow_right₀ one_le_two hplace
    _ ≤ m.largestRat := m.two_zpow_bias_le_largestRat

/-- A number that is a multiple of its last place and below `2^bias` is its own rounding, with no flag. -/
theorem Fmt.round_of_exact (hmant : mant ≠ 0) (hhigh : topOf mant exp < m.bias)
    (hexact : (m.roundedPlaces mode neg mant exp).2 = false) :
    (m.round mode neg mant exp).2 = noFlags ∧
      (m.unpack (m.round mode neg mant exp).1).toRat = (FVal.finite neg mant exp).toRat := by
  have hfinite := Fmt.abs_roundedValue_le (mode := mode) (neg := neg) hhigh
  rw [Fmt.roundedPlaces_exact_iff] at hexact
  obtain ⟨n, k, e, hunpack, -, hvalue⟩ := Fmt.round_standsFor hmant hfinite Iff.rfl
  refine ⟨(Fmt.round_flags hmant hfinite).1 hexact, ?_⟩
  rw [hunpack, ← hexact]
  exact_mod_cast hvalue

/-- A number no smaller than the smallest normal one is not tiny. -/
theorem Fmt.smallestNormal_le_unboundedValue (hmant : mant ≠ 0) (h : 1 - (m.bias : Int) ≤ topOf mant exp) :
    2 ^ (1 - (m.bias : Int)) ≤ |(m.unboundedValue mode neg mant exp).toRat| := by
  rw [← not_lt, ← Fmt.isTiny_iff hmant, Fmt.isTiny, decide_eq_false (not_lt.2 h)]
  simp

/-- Where the number lies within the normal range the flag is NX or none, and none just where it is exact (R421). -/
theorem Fmt.round_flags_of_normal (hmant : mant ≠ 0) (hlow : 1 - (m.bias : Int) ≤ topOf mant exp)
    (hhigh : topOf mant exp < m.bias) :
    ((m.round mode neg mant exp).2 = noFlags ∨ (m.round mode neg mant exp).2 = flagNX) ∧
      ((m.round mode neg mant exp).2 = noFlags ↔
        (m.roundedValue mode neg mant exp).toRat = (FVal.finite neg mant exp).toRat) := by
  obtain ⟨exact, -, inexact⟩ := Fmt.round_flags hmant (Fmt.abs_roundedValue_le (mode := mode) (neg := neg) hhigh)
  by_cases heq : (m.roundedValue mode neg mant exp).toRat = (FVal.finite neg mant exp).toRat
  · exact ⟨.inl (exact heq), iff_of_true (exact heq) heq⟩
  · have flag := inexact heq (Fmt.smallestNormal_le_unboundedValue hmant hlow)
    exact ⟨.inr flag, iff_of_false (by rw [flag]; decide) heq⟩

end

end Sys2Proof.Machine
end

section
/-! The proofs of O50, O51 and O52: a conversion is a rounding of the number converted (R372), so what each writes is
read off what `Fmt.round` and `roundAt` give. -/

namespace Sys2Proof.Machine

theorem FVal.toRat_zero (neg : Bool) (exp : Int) : (FVal.finite neg 0 exp).toRat = 0 := by simp [FVal.toRat]

theorem Fmt.toRat_unpack_zero (m : Fmt) (neg : Bool) : (m.unpack (m.zero neg)).toRat = 0 := by
  obtain ⟨-, n, e, hunpack, -⟩ := m.givesZero_zero neg
  rw [hunpack, FVal.toRat_zero]

/-- NX alone says whether a result is inexact (R37). -/
theorem flagIf_nx : ∀ inexact : Bool, (flagIf inexact flagNX = noFlags ∨ flagIf inexact flagNX = flagNX) ∧
    (flagIf inexact flagNX = noFlags ↔ inexact = false) := by decide

/-! ### From a rounding law to its statement -/

section
variable {i j : Instr} {s : State} {rd rs1 : RegIdx} {rm : BitVec 3} {mode : Rounding} {m : Fmt}

/-- A conversion from an integer (R372). -/
theorem completesF_of_convertFromInt {v : Int} (hmode : s.resolve rm = some mode) (hw : m.width ≤ s.cfg.flen)
    (h : exec i s = s.convertFromInt j m v rd rm) : completesF i 4 s m rd (m.fromInt mode v) :=
  completesF_of_finishF hw (by rw [h, State.convertFromInt, State.withRounding_some hmode])

/-- A conversion between formats (R372). -/
theorem completesF_of_convertFormat {src : Fmt} (hmode : s.resolve rm = some mode) (hw : m.width ≤ s.cfg.flen)
    (h : exec i s = s.convertFormat j src m rd rs1 rm) :
    completesF i 4 s m rd (src.convert m mode (s.unbox src rs1)) :=
  completesF_of_finishF hw (by rw [h, State.convertFormat, State.withRounding_some hmode])

/-- A conversion to an integer that fits in the register (R372, R398). -/
theorem completesXF_of_convertToInt {signed : Bool} {len : Nat} (hmode : s.resolve rm = some mode)
    (hlen : len ≤ s.cfg.xlen.bits) (h : exec i s = s.convertToInt j m signed len rd rs1 rm) :
    completesXF i s rd fun v fl =>
      xsigned s.cfg.xlen v = (m.toInt mode signed len (s.unbox m rs1)).1.bmod (2 ^ len) ∧
        fl = (m.toInt mode signed len (s.unbox m rs1)).2 := by
  have executed : exec i s = s.finishXF rd
      (xsext s.cfg.xlen (BitVec.ofInt len (m.toInt mode signed len (s.unbox m rs1)).1))
      (m.toInt mode signed len (s.unbox m rs1)).2 := h.trans (State.withRounding_some hmode _ _)
  refine completesXF_of_finishXF executed ⟨?_, rfl⟩
  rw [xsigned_xtrunc, xsigned_xsext hlen, BitVec.toInt_ofInt]

end

/-- `signed(x[r])` on RV64. -/
theorem State.toInt_readX {s : State} (h64 : s.cfg.xlen = .rv64) (r : RegIdx) : (s.readX r).toInt = s.sx r := by
  rw [State.sx, h64]
  rfl

/-! ### From integers -/

section
variable {m : Fmt} {mode : Rounding} {v : Int}

theorem Fmt.fromInt_zero (m : Fmt) (mode : Rounding) : m.fromInt mode 0 = (m.zero false, noFlags) := rfl

theorem Fmt.fromInt_of_ne_zero (hv : v ≠ 0) : m.fromInt mode v = m.round mode (decide (v < 0)) v.natAbs 0 :=
  if_neg (Int.natAbs_ne_zero.2 hv)

/-- An integer is its sign and magnitude, in units. -/
theorem toRat_finite_natAbs (v : Int) : (FVal.finite (decide (v < 0)) v.natAbs 0).toRat = v := by
  rcases lt_or_ge v 0 with hneg | hpos
  · simp [FVal.toRat, hneg, Nat.cast_natAbs, abs_of_neg hneg]
  · simp [FVal.toRat, hpos.not_gt, Nat.cast_natAbs, abs_of_nonneg hpos]

theorem topOf_natAbs_lt (hv : v ≠ 0) (hlow : -(2 : Int) ^ 63 ≤ v) (hhigh : v < 2 ^ 64) : topOf v.natAbs 0 < 64 := by
  have hlog : v.natAbs.log2 < 64 := (Nat.log2_lt (Int.natAbs_ne_zero.2 hv)).2 (by omega)
  rw [topOf]
  omega

/-- An integer of no more bits than a significand is exact in the format. The last of them is the power of two above,
whose last place is 2. -/
theorem Fmt.roundedPlaces_exact_of_le {neg : Bool} {k : Nat} (hk : k ≠ 0) (h : k ≤ 2 ^ (m.fracBits + 1)) :
    (m.roundedPlaces mode neg k 0).2 = false := by
  have hbias := m.bias_pos
  rcases h.lt_or_eq with hlt | rfl
  · have hlog := (Nat.log2_lt hk).2 hlt
    refine roundAt_exact_of_le ?_
    rw [Fmt.lastPlace, Fmt.minLsb, topOf]
    omega
  · have hplace : m.lastPlace (topOf (2 ^ (m.fracBits + 1)) 0) = 1 := by
      rw [Fmt.lastPlace, Fmt.minLsb, topOf, Nat.log2_two_pow]
      push_cast
      omega
    rw [Fmt.roundedPlaces, hplace]
    refine roundAt_exact_of_multiple (k := 2 ^ m.fracBits) ?_
    rw [zpow_zero, zpow_one, pow_succ]
    push_cast
    ring

/-- What rounding a nonzero integer below 2^64 gives: it lies in the normal range of every format. -/
theorem Fmt.round_natAbs (hv : v ≠ 0) (hlow : -(2 : Int) ^ 63 ≤ v) (hhigh : v < 2 ^ 64) :
    let r := m.round mode (decide (v < 0)) v.natAbs 0
    (r.2 = noFlags ∨ r.2 = flagNX) ∧ (r.2 = noFlags ↔ (m.unpack r.1).toRat = v) ∧
      (∃ neg k e, m.unpack r.1 = .finite neg k e ∧ (neg = true ↔ v < 0)) ∧ m.rounds mode (v : Real) r ∧
      (v.natAbs ≤ 2 ^ (m.fracBits + 1) → r.2 = noFlags) := by
  have hmant : v.natAbs ≠ 0 := Int.natAbs_ne_zero.2 hv
  have top_lt : topOf v.natAbs 0 < m.bias := by
    have : 64 ≤ m.bias := by cases m <;> decide
    have := topOf_natAbs_lt hv hlow hhigh
    omega
  have top_ge : 1 - (m.bias : Int) ≤ topOf v.natAbs 0 := by
    have := m.bias_pos
    rw [topOf]
    omega
  have value := toRat_finite_natAbs v
  obtain ⟨flags, exact_iff⟩ := Fmt.round_flags_of_normal (mode := mode) (neg := decide (v < 0)) hmant top_ge top_lt
  obtain ⟨neg, k, e, hunpack, hneg, hvalue⟩ :=
    Fmt.round_standsFor (mode := mode) hmant (Fmt.abs_roundedValue_le top_lt) (decide_eq_true_iff (p := v < 0))
  have result : (m.unpack (m.round mode (decide (v < 0)) v.natAbs 0).1).toRat =
      (m.roundedValue mode (decide (v < 0)) v.natAbs 0).toRat := by
    rw [hunpack]
    exact_mod_cast hvalue
  have rounds := Fmt.rounds_round (m := m) (mode := mode) (neg := decide (v < 0)) (exp := 0) hmant
  rw [value] at exact_iff rounds
  exact ⟨flags, by rw [result, exact_iff], ⟨neg, k, e, hunpack, hneg⟩, by exact_mod_cast rounds,
    fun hle => (Fmt.round_of_exact hmant top_lt (Fmt.roundedPlaces_exact_of_le hmant hle)).1⟩

end

/-- Settles O50: each conversion rounds the integer of its operand; one below 2^64 lies in the normal range of every
format. -/
theorem integersConvertToFloatingPoint : Obligations.IntegersConvertToFloatingPoint := by
  unfold Obligations.IntegersConvertToFloatingPoint
  refine ⟨fun s rd rs1 rm mode hmode => ?_, fun m mode v hlow hhigh => ?_⟩
  · intro done
    have law {i : Instr} {m : Fmt} {v : Int} (hm : m.letter ∈ (i.row s.cfg.xlen).ext)
        (h : exec i s = s.convertFromInt i m v rd rm) : done i m v :=
      fun hi => completesF_of_convertFromInt hmode (Fmt.width_le_flen hi hm) h
    have long {i : Instr} {m : Fmt} (h64 : (i.row s.cfg.xlen).widths = .only64)
        (hm : m.letter ∈ (i.row s.cfg.xlen).ext)
        (h : exec i s = s.convertFromInt i m (s.readX rs1).toInt rd rm) : done i m (s.sx rs1) :=
      fun hi => State.toInt_readX (rv64_of_wellFormed hi h64) rs1 ▸ law hm h hi
    have demanded {l : List Letter} {a : Letter} : a ∈ a :: l := List.mem_cons_self
    rw [← s.readW_toNat rs1]
    exact ⟨⟨law demanded rfl, law demanded rfl, law demanded rfl⟩,
      ⟨law demanded rfl, law demanded rfl, law demanded rfl⟩,
      ⟨long rfl demanded rfl, long rfl demanded rfl, long rfl demanded rfl⟩,
      ⟨law demanded rfl, law demanded rfl, law demanded rfl⟩⟩
  · intro r
    by_cases hv : v = 0
    · subst hv
      obtain ⟨-, neg, e, hunpack, hneg⟩ := m.givesZero_zero false
      have plus : neg = true ↔ False := hneg.trans (by simp)
      have value : (m.unpack (m.zero false)).toRat = ((0 : Int) : Rat) :=
        (m.toRat_unpack_zero false).trans Int.cast_zero.symm
      have hr : r = (m.zero false, noFlags) := m.fromInt_zero mode
      rw [hr]
      exact ⟨.inl rfl, iff_of_true rfl value, ⟨neg, 0, e, hunpack, plus.trans (by simp)⟩,
        fun h => absurd rfl h, fun _ => ⟨rfl, neg, e, hunpack, plus⟩, fun _ => rfl⟩
    · have hr : r = m.round mode (decide (v < 0)) v.natAbs 0 := Fmt.fromInt_of_ne_zero hv
      obtain ⟨flags, exact_iff, finite, rounds, exact⟩ := Fmt.round_natAbs (m := m) (mode := mode) hv hlow hhigh
      rw [hr]
      exact ⟨flags, exact_iff, finite, fun _ => rounds, fun h => absurd h hv, exact⟩

/-! ### To integers -/

section
variable {m : Fmt} {mode : Rounding} {signed : Bool} {len : Nat} {a : FWord}

theorem intRange_eq (signed : Bool) (len : Nat) : intRange signed len =
    (if signed then -(2 : Int) ^ (len - 1) else 0,
      if signed then (2 : Int) ^ (len - 1) - 1 else (2 : Int) ^ len - 1) := by
  cases signed <;> rfl

theorem intRange_le : (intRange signed len).1 ≤ (intRange signed len).2 := by
  have hpow (k : Nat) : (1 : Int) ≤ 2 ^ k := one_le_pow₀ (by decide)
  cases signed with
  | false => exact sub_nonneg.2 (hpow len)
  | true =>
    have := hpow (len - 1)
    simp only [intRange, if_true]
    omega

theorem Fmt.toInt_nan {sig : Bool} (h : m.unpack a = .nan sig) :
    m.toInt mode signed len a = ((intRange signed len).2, flagNV) := by
  simp only [Fmt.toInt, h]

theorem Fmt.toInt_inf {neg : Bool} (h : m.unpack a = .inf neg) : m.toInt mode signed len a =
    (if neg then (intRange signed len).1 else (intRange signed len).2, flagNV) := by
  simp only [Fmt.toInt, h]

/-- A finite value as an integer, rounded (R372). -/
def roundedInt (mode : Rounding) (neg : Bool) (mant : Nat) (exp : Int) : Int :=
  (if neg then -1 else 1) * ((roundAt mode neg mant exp 0).1 : Int)

theorem Fmt.toInt_finite {neg : Bool} {mant : Nat} {exp : Int} (h : m.unpack a = .finite neg mant exp) :
    m.toInt mode signed len a =
      if roundedInt mode neg mant exp < (intRange signed len).1 then ((intRange signed len).1, flagNV)
      else if (intRange signed len).2 < roundedInt mode neg mant exp then ((intRange signed len).2, flagNV)
      else (roundedInt mode neg mant exp, flagIf (roundAt mode neg mant exp 0).2 flagNX) := by
  have signed_eq : roundedInt mode neg mant exp =
      if neg then -((roundAt mode neg mant exp 0).1 : Int) else (roundAt mode neg mant exp 0).1 := by
    cases neg <;> simp [roundedInt]
  simp only [Fmt.toInt, h, signed_eq]

theorem roundedInt_exact_iff {neg : Bool} {mant : Nat} {exp : Int} : (roundAt mode neg mant exp 0).2 = false ↔
    ((roundedInt mode neg mant exp : Int) : Rat) = (FVal.finite neg mant exp).toRat := by
  have value : (FVal.finite neg (roundAt mode neg mant exp 0).1 0).toRat =
      ((roundedInt mode neg mant exp : Int) : Rat) := by
    cases neg <;> simp [roundedInt, FVal.toRat]
  rw [roundAt_exact_iff, value]

end

/-- Settles O51: the value rounded at the units is kept where the range has it, and saturates where not. -/
theorem floatingPointConvertsToIntegersSaturating : Obligations.FloatingPointConvertsToIntegersSaturating := by
  unfold Obligations.FloatingPointConvertsToIntegersSaturating
  refine ⟨fun s rd rs1 rm mode hmode => ?_, fun m mode signed len a _ => ?_⟩
  · intro done
    have fits : 32 ≤ s.cfg.xlen.bits := by cases s.cfg.xlen <;> decide
    have fits64 {i : Instr} (hi : i.wellFormed s.cfg = true) (h64 : (i.row s.cfg.xlen).widths = .only64) :
        64 ≤ s.cfg.xlen.bits := by rw [rv64_of_wellFormed hi h64]; decide
    have word {i : Instr} {m : Fmt} {signed : Bool} (h : exec i s = s.convertToInt i m signed 32 rd rs1 rm) :
        done i m signed 32 := fun _ => completesXF_of_convertToInt hmode fits h
    have long {i : Instr} {m : Fmt} {signed : Bool} (h64 : (i.row s.cfg.xlen).widths = .only64)
        (h : exec i s = s.convertToInt i m signed 64 rd rs1 rm) : done i m signed 64 :=
      fun hi => completesXF_of_convertToInt hmode (fits64 hi h64) h
    exact ⟨⟨word rfl, word rfl, word rfl⟩, ⟨word rfl, word rfl, word rfl⟩,
      ⟨long rfl rfl, long rfl rfl, long rfl rfl⟩, ⟨long rfl rfl, long rfl rfl, long rfl rfl⟩⟩
  · intro low high r
    have range : intRange signed len = (low, high) := intRange_eq signed len
    have ordered : low ≤ high := by simpa only [range] using intRange_le (signed := signed) (len := len)
    refine ⟨fun sig h => ?_, fun h => ?_, fun h => ?_, fun neg mant exp h => ?_⟩
    · exact (Fmt.toInt_nan h).trans (by rw [range])
    · exact (Fmt.toInt_inf h).trans (by rw [range]; rfl)
    · exact (Fmt.toInt_inf h).trans (by rw [range]; rfl)
    · intro rounded
      have value : r = if rounded < low then (low, flagNV) else if high < rounded then (high, flagNV)
          else (rounded, flagIf (roundAt mode neg mant exp 0).2 flagNX) := by
        have := Fmt.toInt_finite (mode := mode) (signed := signed) (len := len) h
        rwa [range] at this
      have exact_iff : (roundAt mode neg mant exp 0).2 = false ↔
          (rounded : Rat) = (FVal.finite neg mant exp).toRat := roundedInt_exact_iff
      refine ⟨fun below => by rw [value, if_pos below], fun above => ?_, fun above below => ?_⟩
      · rw [value, if_neg (ordered.trans above.le).not_gt, if_pos above]
      · rw [value, if_neg above.not_gt, if_neg below.not_gt, ← exact_iff]
        exact ⟨rfl, flagIf_nx _⟩

/-! ### Between formats -/

section
variable {src dst : Fmt} {mode : Rounding} {a : FWord} {neg : Bool} {mant : Nat} {exp : Int}

theorem Fmt.convert_nan {sig : Bool} (h : src.unpack a = .nan sig) :
    src.convert dst mode a = (dst.canonicalNaN, if sig then flagNV else noFlags) := by
  simp only [Fmt.convert, h]
  rfl

theorem Fmt.convert_inf (h : src.unpack a = .inf neg) : src.convert dst mode a = (dst.infinity neg, noFlags) := by
  simp only [Fmt.convert, h]

theorem Fmt.convert_zero (h : src.unpack a = .finite neg 0 exp) :
    src.convert dst mode a = (dst.zero neg, noFlags) := by
  simp only [Fmt.convert, h]
  rfl

theorem Fmt.convert_finite (hmant : mant ≠ 0) (h : src.unpack a = .finite neg mant exp) :
    src.convert dst mode a = dst.round mode neg mant exp := by
  simp only [Fmt.convert, h]
  exact if_neg hmant

/-- A format with no fewer fraction bits and more exponents has every number of the narrower one. -/
theorem Fmt.convert_exact (hfrac : src.fracBits ≤ dst.fracBits) (hbias : src.bias < dst.bias)
    (h : src.unpack a = .finite neg mant exp) :
    (src.convert dst mode a).2 = noFlags ∧
      (dst.unpack (src.convert dst mode a).1).toRat = (FVal.finite neg mant exp).toRat := by
  rcases eq_or_ne mant 0 with rfl | hmant
  · rw [Fmt.convert_zero h, FVal.toRat_zero]
    exact ⟨rfl, dst.toRat_unpack_zero neg⟩
  · obtain ⟨hfinite, hmant_eq, hexp_eq⟩ := Fmt.unpack_eq_finite h
    have hlog : mant.log2 < src.fracBits + 1 := (Nat.log2_lt hmant).2 (hmant_eq ▸ src.significand_lt _)
    have hlow : src.minLsb ≤ exp := hexp_eq ▸ src.minLsb_le_exponent _
    have hhigh : exp ≤ (src.bias : Int) - src.fracBits := hexp_eq ▸ Fmt.exponent_le hfinite
    rw [Fmt.convert_finite hmant h]
    refine Fmt.round_of_exact hmant (by rw [topOf]; omega) (roundAt_exact_of_le ?_)
    rw [Fmt.minLsb] at hlow
    rw [Fmt.lastPlace, Fmt.minLsb, topOf]
    omega

theorem widenings_widen : ∀ p ∈ [(Fmt.s, Fmt.d), (.s, .q), (.d, .q)],
    p.1.fracBits ≤ p.2.fracBits ∧ p.1.bias < p.2.bias := by decide

end

/-- Settles O52, by the kind of the value converted; a nonzero number is rounded once by `Fmt.round`. -/
theorem formatsConvertIntoEachOther : Obligations.FormatsConvertIntoEachOther := by
  unfold Obligations.FormatsConvertIntoEachOther
  refine ⟨fun s rd rs1 rm mode hmode => ?_, fun src dst mode a sig h => Fmt.convert_nan h, fun src dst mode a => ?_,
    fun p hp mode a neg mant exp h => ?_⟩
  · intro done
    have law {i : Instr} {src dst : Fmt} (hw : i.wellFormed s.cfg = true → dst.width ≤ s.cfg.flen)
        (h : exec i s = s.convertFormat i src dst rd rs1 rm) : done i src dst :=
      fun hi => completesF_of_convertFormat hmode (hw hi) h
    have wide {i : Instr} {m : Fmt} (hm : m.letter ∈ (i.row s.cfg.xlen).ext) (hi : i.wellFormed s.cfg = true) :
        m.width ≤ s.cfg.flen := Fmt.width_le_flen hi hm
    have demanded {l : List Letter} {a : Letter} : a ∈ a :: l := List.mem_cons_self
    have single : Fmt.width .s ≤ s.cfg.flen := flen_of_f _
    have double {i : Instr} (hm : Letter.Q ∈ (i.row s.cfg.xlen).ext) (hi : i.wellFormed s.cfg = true) :
        Fmt.width .d ≤ s.cfg.flen := le_trans (by decide) (wide (m := .q) hm hi)
    exact ⟨law (fun _ => single) rfl, law (wide demanded) rfl, law (fun _ => single) rfl, law (wide demanded) rfl,
      law (double demanded) rfl, law (wide demanded) rfl⟩
  · intro r
    refine ⟨fun neg h => ?_, fun neg exp h => ?_, fun neg mant exp h => ?_⟩
    · have hr : r = (dst.infinity neg, noFlags) := Fmt.convert_inf h
      rw [hr]
      exact dst.givesInfinity_infinity neg
    · have hr : r = (dst.zero neg, noFlags) := Fmt.convert_zero h
      rw [hr]
      exact dst.givesZero_zero neg
    · have hr : r = dst.round mode neg (mant + 1) exp := Fmt.convert_finite mant.succ_ne_zero h
      rw [h, hr]
      exact Fmt.rounds_round mant.succ_ne_zero
  · obtain ⟨hfrac, hbias⟩ := widenings_widen p hp
    exact Fmt.convert_exact hfrac hbias h

end Sys2Proof.Machine
end

section
/-! The proofs of O30 and O44: the floating-point configuration instructions are CSR instructions on the fields of
`fcsr` (R477 to R484), and a rounding mode that does not resolve is illegal (R420). -/

namespace Sys2Proof.Machine

/-- CSRRS with `x0` on the floating-point status: a pure read. -/
theorem State.csrSet_reads {s : State} {n : BitVec 12} {c : Csr} (h : Csr.InFcsr n c) (hf : s.cfg.ext.f = true)
    (i : Instr) (rd : RegIdx) :
    ∃ t, s.csrSet i rd n 0#5 0#64 = .next t ∧ wroteCsr rd (fpCsrValue s c) s.fcsr s t := by
  obtain ⟨t, hnext, hwrote⟩ := State.csrSet_wroteCsr h hf i rd (field := 0#5) fun _ => rfl
  rw [BitVec.or_zero, fpCsrAfter_fpCsrValue h] at hwrote
  exact ⟨t, hnext, hwrote⟩

/-- Settles O30: each is CSRRS with `x0`, CSRRW or CSRRWI on one field of `fcsr`. -/
theorem floatingPointConfigurationReadsAndSwaps : Obligations.FloatingPointConfigurationReadsAndSwaps := by
  unfold Obligations.FloatingPointConfigurationReadsAndSwaps
  intro s rd rs1 zimm hf reads swaps
  have reading {n : BitVec 12} {c : Csr} (row : Csr.InFcsr n c) {i : Instr}
      (h : exec i s = s.csrSet i rd n 0#5 0#64) : reads i c := by
    simpa only [reads, h] using State.csrSet_reads row hf i rd
  have swapping {n : BitVec 12} {c : Csr} (row : Csr.InFcsr n c) {i : Instr} {v : Word}
      (h : exec i s = s.csrSwap i rd n v) : swaps i c v := by
    simpa only [swaps, h] using State.csrSwap_wroteCsr row hf i rd v
  exact ⟨reading .fcsr rfl, reading .frm rfl, reading .fflags rfl, swapping .fcsr rfl, swapping .frm rfl,
    swapping .fflags rfl, swapping .frm rfl, fun _ => swapping .fflags rfl⟩

/-! ### Rounding modes -/

/-- The modes of R38, by their code. -/
def roundingModes : List Rounding := [.rne, .rtz, .rdn, .rup, .rmm]

theorem roundingOf_eq : ∀ code : BitVec 3, roundingOf code = roundingModes[code.toNat]? := by decide

theorem State.resolve_of_static {s : State} {rm : BitVec 3} (h : rm.toNat ≠ 7) :
    s.resolve rm = roundingModes[rm.toNat]? := by
  rw [State.resolve, if_neg (fun hrm => h (congrArg BitVec.toNat hrm)), roundingOf_eq]

theorem State.resolve_of_dynamic {s : State} {rm : BitVec 3} (h : rm.toNat = 7) :
    s.resolve rm = roundingModes[s.frm.toNat]? := by
  rw [State.resolve, if_pos (BitVec.eq_of_toNat_eq h), roundingOf_eq]

/-- The reserved codes of an instruction, and of `frm` where the instruction asks for that (R420). -/
theorem State.resolve_eq_none {s : State} {rm : BitVec 3}
    (h : rm.toNat = 5 ∨ rm.toNat = 6 ∨ (rm.toNat = 7 ∧ 5 ≤ s.frm.toNat)) : s.resolve rm = none := by
  obtain hrm | hrm | ⟨hrm, hfrm⟩ := h
  · rw [State.resolve_of_static (by omega), hrm]
    rfl
  · rw [State.resolve_of_static (by omega), hrm]
    rfl
  · rw [State.resolve_of_dynamic hrm]
    exact List.getElem?_eq_none hfrm

/-- Settles O44: each instruction with an `rm` field resolves it before anything else. -/
theorem invalidRoundingModesAreIllegal : Obligations.InvalidRoundingModesAreIllegal := by
  unfold Obligations.InvalidRoundingModesAreIllegal
  intro s rd rs1 rs2 rs3 rm modes illegal
  refine ⟨fun h => State.resolve_of_static (by omega), State.resolve_of_dynamic, fun h => ?_⟩
  have law {i : Instr} {k : Rounding → Res} (hi : exec i s = s.withRounding i rm k) : illegal i :=
    hi.trans (State.withRounding_none (State.resolve_eq_none h) i k)
  and_intros <;> exact law rfl

end Sys2Proof.Machine
end

section
/-! The proofs of O45, O53 and O56: arithmetic in a mode that resolves (R421), sign injection (R450 to R458) and
classification (R474 to R476). -/

namespace Sys2Proof.Machine

/-! ### From an arithmetic law to its statement -/

section
variable {i j : Instr} {s : State} {m : Fmt} {rd rs1 rs2 : RegIdx} {rm : BitVec 3} {mode : Rounding}

theorem completesF_of_arith2 {op : Fmt → Rounding → FWord → FWord → FWord × FFlags}
    (hmode : s.resolve rm = some mode) (hw : m.width ≤ s.cfg.flen)
    (h : exec i s = s.arith2 j m op rd rs1 rs2 rm) :
    completesF i 4 s m rd (op m mode (s.unbox m rs1) (s.unbox m rs2)) :=
  completesF_of_finishF hw (by rw [h, State.arith2, State.withRounding_some hmode])

theorem completesF_of_arith1 {op : Fmt → Rounding → FWord → FWord × FFlags}
    (hmode : s.resolve rm = some mode) (hw : m.width ≤ s.cfg.flen) (h : exec i s = s.arith1 j m op rd rs1 rm) :
    completesF i 4 s m rd (op m mode (s.unbox m rs1)) :=
  completesF_of_finishF hw (by rw [h, State.arith1, State.withRounding_some hmode])

end

/-- Settles O45: each is `arith2` or `arith1` with its operation. -/
theorem arithmeticWritesTheRoundedResult : Obligations.ArithmeticWritesTheRoundedResult := by
  unfold Obligations.ArithmeticWritesTheRoundedResult
  intro s rd rs1 rs2 rm mode hmode a b done
  have two {i : Instr} {m : Fmt} {op : Fmt → Rounding → FWord → FWord → FWord × FFlags}
      (hm : m.letter ∈ (i.row s.cfg.xlen).ext) (h : exec i s = s.arith2 i m op rd rs1 rs2 rm) :
      done i m (op m mode (a m) (b m)) := fun hi => completesF_of_arith2 hmode (Fmt.width_le_flen hi hm) h
  have one {i : Instr} {m : Fmt} (hm : m.letter ∈ (i.row s.cfg.xlen).ext)
      (h : exec i s = s.arith1 i m Fmt.sqrt rd rs1 rm) : done i m (m.sqrt mode (a m)) :=
    fun hi => completesF_of_arith1 hmode (Fmt.width_le_flen hi hm) h
  have demanded {l : List Letter} {a : Letter} : a ∈ a :: l := List.mem_cons_self
  exact ⟨⟨two demanded rfl, two demanded rfl, two demanded rfl⟩, ⟨two demanded rfl, two demanded rfl, two demanded rfl⟩,
    ⟨two demanded rfl, two demanded rfl, two demanded rfl⟩, ⟨two demanded rfl, two demanded rfl, two demanded rfl⟩,
    ⟨one demanded rfl, one demanded rfl, one demanded rfl⟩⟩

/-! ### Sign injection -/

section
variable {m : Fmt} {a v w : FWord} {neg : Bool}

theorem Fmt.magnitude_lt (m : Fmt) (v : FWord) : m.magnitude v < 2 ^ (m.width - 1) := Nat.mod_lt _ (Nat.two_pow_pos _)

theorem Fmt.sign_withSign : m.sign (m.withSign a neg) = neg := Fmt.sign_pack (m.magnitude_lt a)

theorem Fmt.magnitude_withSign : m.magnitude (m.withSign a neg) = m.magnitude a := Fmt.magnitude_pack (m.magnitude_lt a)

/-- The magnitude is the bits below the sign. -/
theorem Fmt.getLsbD_eq_of_magnitude (h : m.magnitude v = m.magnitude w) {k : Nat} (hk : k < m.width - 1) :
    v.getLsbD k = w.getLsbD k := by
  have low (u : FWord) : u.getLsbD k = (m.magnitude u).testBit k := by
    rw [Fmt.magnitude, Nat.testBit_mod_two_pow, decide_eq_true hk, Bool.true_and]
    rfl
  rw [low, low, h]

end

/-- Settles O53: `withSign` gives the sign and keeps the magnitude. -/
theorem signInjectionReplacesTheSign : Obligations.SignInjectionReplacesTheSign := by
  unfold Obligations.SignInjectionReplacesTheSign
  intro s rd rs1 rs2 done
  have law {i : Instr} {m : Fmt} {sign : Bool → Bool → Bool} (hm : m.letter ∈ (i.row s.cfg.xlen).ext)
      (h : exec i s = s.signInject m sign rd rs1 rs2) : done i m sign := fun hi =>
    ⟨_, completesF_of_finishF (Fmt.width_le_flen hi hm) h, Fmt.sign_withSign,
      fun _ => Fmt.getLsbD_eq_of_magnitude Fmt.magnitude_withSign⟩
  have demanded {l : List Letter} {a : Letter} : a ∈ a :: l := List.mem_cons_self
  clear_value done
  exact ⟨⟨law demanded rfl, law demanded rfl, law demanded rfl⟩, ⟨law demanded rfl, law demanded rfl, law demanded rfl⟩,
    ⟨law demanded rfl, law demanded rfl, law demanded rfl⟩⟩

/-! ### Classification -/

section
variable {m : Fmt} {a : FWord} {neg sig : Bool} {mant : Nat} {exp : Int}

theorem Fmt.classBit_nan (h : m.unpack a = .nan sig) : m.classBit a = if sig then 8 else 9 := by
  simp only [Fmt.classBit, h]

theorem Fmt.classBit_inf (h : m.unpack a = .inf neg) : m.classBit a = if neg then 0 else 7 := by
  simp only [Fmt.classBit, h]

theorem Fmt.classBit_finite (h : m.unpack a = .finite neg mant exp) : m.classBit a =
    if mant = 0 then if neg then 3 else 4
    else if mant < 2 ^ m.fracBits then if neg then 2 else 5 else if neg then 1 else 6 := by
  simp only [Fmt.classBit, h]

/-- A class is one of ten. -/
theorem Fmt.classBit_lt (m : Fmt) (a : FWord) : m.classBit a < 10 := by
  cases h : m.unpack a with
  | nan sig => rw [Fmt.classBit_nan h]; split <;> decide
  | inf neg => rw [Fmt.classBit_inf h]; split <;> decide
  | finite neg mant exp => rw [Fmt.classBit_finite h]; split_ifs <;> decide

end

/-- A mask of ten bits fits in a register of either width. -/
theorem xtrunc_mask_toNat {k : Nat} (hk : k < 10) (x : Xlen) : (xtrunc x (BitVec.ofNat 64 (2 ^ k))).toNat = 2 ^ k := by
  have hpow : 2 ^ k < 2 ^ 32 := Nat.pow_lt_pow_right (by decide) (by omega)
  have hbits : 2 ^ k < 2 ^ x.bits := hpow.trans_le (Nat.pow_le_pow_right (by decide) (by cases x <;> decide))
  rw [xtrunc_toNat, BitVec.toNat_ofNat, Nat.mod_eq_of_lt (hpow.trans (by decide)), Nat.mod_eq_of_lt hbits]

/-- Settles O56: the bit set is the number of the class, by the kind of the value. -/
theorem classificationSetsOneBit : Obligations.ClassificationSetsOneBit := by
  unfold Obligations.ClassificationSetsOneBit
  intro s rd rs1 done
  have law {i : Instr} {m : Fmt} (h : exec i s = s.classify m rd rs1) : done i m := by
    intro hi a
    refine completesXF_of_finishXF h ⟨rfl, m.classBit a, xtrunc_mask_toNat (m.classBit_lt a) _,
      Fmt.classBit_inf, Fmt.classBit_inf, Fmt.classBit_nan, Fmt.classBit_nan, fun neg mant exp ha => ?_⟩
    rw [Fmt.classBit_finite ha]
    have hidden : 0 < 2 ^ m.fracBits := Nat.two_pow_pos _
    refine ⟨fun hzero => if_pos hzero, fun hpos hsub => ?_, fun hnormal => ?_⟩
    · rw [if_neg hpos.ne', if_pos hsub]
    · rw [if_neg (by omega), if_neg hnormal.not_gt]
  exact ⟨law rfl, law rfl, law rfl⟩

end Sys2Proof.Machine
end

section
/-! The proof of O54: FMIN and FMAX (R485), one lemma per row of the table. -/

namespace Sys2Proof.Machine

theorem FVal.isSignaling_of_isNaN_eq_false {v : FVal} (h : v.isNaN = false) : v.isSignaling = false := by
  cases v with
  | nan sig => cases h
  | inf neg => rfl
  | finite neg mant exp => rfl

section
variable {m : Fmt} {rule : FMinMaxRule} {draw isMax : Bool} {a b : FWord}

/-! ### Operands of equal order -/

theorem Fmt.pickEqual_eq_or : m.pickEqual rule draw isMax a b = a ∨ m.pickEqual rule draw isMax a b = b := by
  rw [Fmt.pickEqual.eq_def]
  cases rule <;> dsimp only <;> split_ifs <;> simp

/-- Under `v22` the minimum of the two zeros is -0 and their maximum +0. -/
theorem Fmt.sign_pickEqual_v22 (h : m.sign a ≠ m.sign b) : m.sign (m.pickEqual .v22 draw isMax a b) = !isMax := by
  have hb : m.sign b = !m.sign a := Bool.eq_not_of_ne h.symm
  rw [Fmt.pickEqual.eq_def, if_neg h]
  by_cases ha : m.sign a = isMax
  · rw [if_pos ha, hb, ha]
  · rw [if_neg ha, Bool.eq_not_of_ne ha]

/-! ### The table -/

theorem Fmt.minMax_nan_nan (ha : (m.unpack a).isNaN = true) (hb : (m.unpack b).isNaN = true) :
    (m.minMax rule draw isMax a b).1 = m.canonicalNaN := by
  simp [Fmt.minMax, ha, hb]

theorem Fmt.minMax_signaling_v20 (h : ((m.unpack a).isSignaling || (m.unpack b).isSignaling) = true) :
    (m.minMax .v20 draw isMax a b).1 = m.canonicalNaN := by
  simp [Fmt.minMax, h]

theorem Fmt.minMax_nan_number (ha : (m.unpack a).isNaN = true) (hb : (m.unpack b).isNaN = false)
    (h : (m.unpack a).isSignaling = false ∨ rule = .v22) : (m.minMax rule draw isMax a b).1 = b := by
  rcases h with hquiet | rfl
  · simp [Fmt.minMax, ha, hb, hquiet, FVal.isSignaling_of_isNaN_eq_false hb]
  · simp [Fmt.minMax, ha, hb]

theorem Fmt.minMax_number_nan (ha : (m.unpack a).isNaN = false) (hb : (m.unpack b).isNaN = true)
    (h : (m.unpack b).isSignaling = false ∨ rule = .v22) : (m.minMax rule draw isMax a b).1 = a := by
  rcases h with hquiet | rfl
  · simp [Fmt.minMax, ha, hb, hquiet, FVal.isSignaling_of_isNaN_eq_false ha]
  · simp [Fmt.minMax, ha, hb]

/-- Two numbers are chosen between by their order. -/
theorem Fmt.minMax_numbers (ha : (m.unpack a).isNaN = false) (hb : (m.unpack b).isNaN = false) :
    (m.minMax rule draw isMax a b).1 =
      if m.orderKey a = m.orderKey b then m.pickEqual rule draw isMax a b
      else if decide (m.orderKey a < m.orderKey b) = isMax then b else a := by
  simp [Fmt.minMax, ha, hb, FVal.isSignaling_of_isNaN_eq_false ha, FVal.isSignaling_of_isNaN_eq_false hb]

theorem Fmt.minMax_of_lt (ha : (m.unpack a).isNaN = false) (hb : (m.unpack b).isNaN = false)
    (h : m.orderKey a < m.orderKey b) : (m.minMax rule draw isMax a b).1 = if isMax then b else a := by
  rw [Fmt.minMax_numbers ha hb, if_neg h.ne, decide_eq_true h]
  cases isMax <;> rfl

theorem Fmt.minMax_of_gt (ha : (m.unpack a).isNaN = false) (hb : (m.unpack b).isNaN = false)
    (h : m.orderKey b < m.orderKey a) : (m.minMax rule draw isMax a b).1 = if isMax then a else b := by
  rw [Fmt.minMax_numbers ha hb, if_neg h.ne', decide_eq_false h.not_gt]
  cases isMax <;> rfl

theorem Fmt.minMax_of_eq (ha : (m.unpack a).isNaN = false) (hb : (m.unpack b).isNaN = false)
    (h : m.orderKey a = m.orderKey b) :
    (m.minMax rule draw isMax a b).1 = m.pickEqual rule draw isMax a b := by
  rw [Fmt.minMax_numbers ha hb, if_pos h]

end

/-- Settles O54, row by row. -/
theorem minimumAndMaximumFollowTheirTable : Obligations.MinimumAndMaximumFollowTheirTable := by
  unfold Obligations.MinimumAndMaximumFollowTheirTable
  intro s rd rs1 rs2 done
  have law {i : Instr} {m : Fmt} {isMax : Bool} (hm : m.letter ∈ (i.row s.cfg.xlen).ext)
      (h : exec i s = s.minMax m isMax rd rs1 rs2) : done i m isMax := by
    intro hi a b va vb signaling
    refine ⟨(m.minMax s.cfg.fMinMax (Config.zeroDraw s.draws) isMax a b).1,
      completesF_of_finishF (Fmt.width_le_flen hi hm) h, Fmt.minMax_nan_nan, fun hsig hrule => ?_,
      Fmt.minMax_nan_number, fun hb ha => Fmt.minMax_number_nan ha hb, fun ha hb => ⟨Fmt.minMax_of_lt ha hb,
      Fmt.minMax_of_gt ha hb, fun heq => ⟨?_, fun hrule hsign => ?_⟩⟩⟩
    · rw [hrule]
      exact Fmt.minMax_signaling_v20 hsig
    · rw [Fmt.minMax_of_eq ha hb heq]
      exact Fmt.pickEqual_eq_or
    · rw [Fmt.minMax_of_eq ha hb heq, hrule]
      exact Fmt.sign_pickEqual_v22 hsign
  have demanded {l : List Letter} {a : Letter} : a ∈ a :: l := List.mem_cons_self
  clear_value done
  exact ⟨⟨law demanded rfl, law demanded rfl, law demanded rfl⟩, ⟨law demanded rfl, law demanded rfl, law demanded rfl⟩⟩

end Sys2Proof.Machine
end

section
/-! The proof of O55: `orderKey` orders patterns as the numbers they stand for (R465 to R473). -/

namespace Sys2Proof.Machine

/-- Two pairs that compare alike. -/
def SameOrder (x y : Int) (p q : Rat) : Prop := (x < y ↔ p < q) ∧ (x = y ↔ p = q)

theorem SameOrder.le_iff {x y : Int} {p q : Rat} (h : SameOrder x y p q) : x ≤ y ↔ p ≤ q := by
  obtain ⟨hlt, heq⟩ := h
  rw [le_iff_lt_or_eq, le_iff_lt_or_eq, hlt, heq]

/-! ### Finite values -/

theorem Fmt.magnitudeValue_zero (m : Fmt) : m.magnitudeValue 0 = 0 := by simp [Fmt.magnitudeValue, Fmt.significand]

/-- The number an order key stands for: its magnitude's, of its sign. -/
def Fmt.keyValue (m : Fmt) (k : Int) : Rat :=
  if k < 0 then -m.magnitudeValue k.natAbs else m.magnitudeValue k.natAbs

theorem Fmt.keyValue_strictMono (m : Fmt) : StrictMono m.keyValue := by
  intro j k hjk
  have mono := m.magnitudeValue_strictMono
  rw [Fmt.keyValue, Fmt.keyValue]
  split_ifs with hj hk hk
  · exact neg_lt_neg (mono (by omega))
  · have below : m.magnitudeValue 0 < m.magnitudeValue j.natAbs := mono (by omega)
    have above : m.magnitudeValue 0 ≤ m.magnitudeValue k.natAbs := mono.monotone (Nat.zero_le _)
    rw [m.magnitudeValue_zero] at below above
    linarith
  · omega
  · exact mono (by omega)

section
variable {m : Fmt} {v : FWord} {neg : Bool}

/-- A finite pattern stands for the number of its order key; both zeros have the key 0. -/
theorem Fmt.toRat_unpack_of_lt (h : m.magnitude v < m.infMagnitude) :
    (m.unpack v).toRat = m.keyValue (m.orderKey v) := by
  have value (neg : Bool) : (FVal.finite neg (m.significand (m.magnitude v)) (m.exponent (m.magnitude v))).toRat =
      signFactor neg * m.magnitudeValue (m.magnitude v) := mul_assoc _ _ _
  rw [Fmt.unpack_of_lt h, value, Fmt.orderKey, Fmt.keyValue]
  cases m.sign v with
  | false => simp [signFactor]
  | true =>
    rcases Nat.eq_zero_or_pos (m.magnitude v) with hzero | hpos
    · simp [hzero, m.magnitudeValue_zero]
    · simp [signFactor, hpos]

theorem Fmt.toRat_unpack_of_finite {mant : Nat} {exp : Int} (h : m.unpack v = .finite neg mant exp) :
    (m.unpack v).toRat = m.keyValue (m.orderKey v) := Fmt.toRat_unpack_of_lt (Fmt.unpack_eq_finite h).1

theorem sameOrder_keyValue (m : Fmt) (j k : Int) : SameOrder j k (m.keyValue j) (m.keyValue k) :=
  ⟨m.keyValue_strictMono.lt_iff_lt.symm, m.keyValue_strictMono.injective.eq_iff.symm⟩

/-! ### Infinities -/

theorem Fmt.unpack_eq_inf (h : m.unpack v = .inf neg) : m.magnitude v = m.infMagnitude ∧ m.sign v = neg := by
  simp only [Fmt.unpack] at h
  split_ifs at h with hexp hfrac
  rw [FVal.inf.injEq] at h
  have hsplit := Nat.div_add_mod' (m.magnitude v) (2 ^ m.fracBits)
  rw [hexp, hfrac, Nat.add_zero] at hsplit
  exact ⟨hsplit.symm, h⟩

/-- Whether an order key is an infinity's. -/
def Fmt.InfiniteKey (m : Fmt) (k : Int) : Prop := k = -(m.infMagnitude : Int) ∨ k = m.infMagnitude

theorem Fmt.infiniteKey_of_inf (h : m.unpack v = .inf neg) : m.InfiniteKey (m.orderKey v) := by
  obtain ⟨hmag, hsign⟩ := Fmt.unpack_eq_inf h
  rw [Fmt.InfiniteKey, Fmt.orderKey, hmag]
  split <;> simp

/-- The infinities have the keys at the two ends, and every other number one between them. -/
theorem Fmt.side_unpack (h : (m.unpack v).isNaN = false) : ∃ d : Int, (m.unpack v).side = d ∧
    ((m.orderKey v = -m.infMagnitude ∧ d = -1) ∨ (m.orderKey v = m.infMagnitude ∧ d = 1) ∨
      (-m.infMagnitude < m.orderKey v ∧ m.orderKey v < m.infMagnitude ∧ d = 0)) := by
  cases hv : m.unpack v with
  | nan sig =>
    rw [hv] at h
    cases h
  | inf neg =>
    obtain ⟨hmag, hsign⟩ := Fmt.unpack_eq_inf hv
    rw [Fmt.orderKey, hmag, hsign]
    cases neg with
    | true => exact ⟨-1, by simp [FVal.side], .inl ⟨rfl, rfl⟩⟩
    | false => exact ⟨1, by simp [FVal.side], .inr (.inl ⟨rfl, rfl⟩)⟩
  | finite neg mant exp =>
    have hlt := (Fmt.unpack_eq_finite hv).1
    refine ⟨0, Int.cast_zero.symm, .inr (.inr ?_)⟩
    rw [Fmt.orderKey]
    split <;> omega

theorem Fmt.sameOrder_side {a b : FWord} (ha : (m.unpack a).isNaN = false) (hb : (m.unpack b).isNaN = false)
    (h : m.InfiniteKey (m.orderKey a) ∨ m.InfiniteKey (m.orderKey b)) :
    SameOrder (m.orderKey a) (m.orderKey b) (m.unpack a).side (m.unpack b).side := by
  have hpos := m.infMagnitude_pos
  obtain ⟨dA, sideA, keyA⟩ := Fmt.side_unpack ha
  obtain ⟨dB, sideB, keyB⟩ := Fmt.side_unpack hb
  rw [sideA, sideB, SameOrder, Int.cast_lt, Int.cast_inj]
  simp only [Fmt.InfiniteKey] at h
  omega

end

/-! ### The comparisons -/

/-- What a comparison writes and raises (R465 to R473), for a relation on numbers and the same on order keys. -/
structure Compares (op : Fmt → FWord → FWord → Bool × FFlags) (quiet : Bool) (rel : Rat → Rat → Prop)
    (relKey : Int → Int → Prop) : Prop where
  result : ∀ m a b, (op m a b).1 = true ↔
    ((m.unpack a).isNaN || (m.unpack b).isNaN) = false ∧ relKey (m.orderKey a) (m.orderKey b)
  flags : ∀ m a b, (op m a b).2 =
    if (quiet && ((m.unpack a).isSignaling || (m.unpack b).isSignaling)) ||
      (!quiet && ((m.unpack a).isNaN || (m.unpack b).isNaN)) then flagNV else noFlags
  order : ∀ {x y p q}, SameOrder x y p q → (relKey x y ↔ rel p q)

theorem compares_eq : Compares Fmt.eq true (· = ·) (· = ·) where
  result m a b := by simp only [Fmt.eq, Bool.and_eq_true, Bool.not_eq_true', beq_iff_eq]
  flags m a b := by simp only [Fmt.eq, flagIf, Bool.true_and, Bool.not_true, Bool.false_and, Bool.or_false]
  order h := h.2

theorem compares_lt : Compares Fmt.lt false (· < ·) (· < ·) where
  result m a b := by simp only [Fmt.lt, Bool.and_eq_true, Bool.not_eq_true', decide_eq_true_eq]
  flags m a b := by simp only [Fmt.lt, flagIf, Bool.false_and, Bool.not_false, Bool.true_and, Bool.false_or]
  order h := h.1

theorem compares_le : Compares Fmt.le false (· ≤ ·) (· ≤ ·) where
  result m a b := by simp only [Fmt.le, Bool.and_eq_true, Bool.not_eq_true', decide_eq_true_eq]
  flags m a b := by simp only [Fmt.le, flagIf, Bool.false_and, Bool.not_false, Bool.true_and, Bool.false_or]
  order h := h.le_iff

theorem xtrunc_boolWord (x : Xlen) (b : Bool) : xtrunc x (boolWord b) = boolWord b := by cases x <;> cases b <;> rfl

theorem boolWord_eq_one_iff : ∀ b : Bool, boolWord b = 1#64 ↔ b = true := by decide

theorem boolWord_eq_zero_or_one : ∀ b : Bool, boolWord b = 0#64 ∨ boolWord b = 1#64 := by decide

/-- Settles O55: finite values have the order of their keys, and an infinity's key is at the end of theirs. -/
theorem floatingPointComparisonsCompareValues : Obligations.FloatingPointComparisonsCompareValues := by
  unfold Obligations.FloatingPointComparisonsCompareValues
  intro s rd rs1 rs2 done
  have law {op : Fmt → FWord → FWord → Bool × FFlags} {quiet : Bool} {rel : Rat → Rat → Prop}
      {relKey : Int → Int → Prop} (hop : Compares op quiet rel relKey) {i : Instr} {m : Fmt}
      (h : exec i s = s.compareF m op rd rs1 rs2) : done i m quiet rel := by
    intro _ va vb nan signaling
    refine completesXF_of_finishXF h ?_
    have one_iff := (boolWord_eq_one_iff _).trans (hop.result m (s.unbox m rs1) (s.unbox m rs2))
    rw [xtrunc_boolWord]
    refine ⟨boolWord_eq_zero_or_one _, fun hnan => ?_, hop.flags .., fun na ma ea nb mb eb ha hb => ?_,
      fun hnan hinf => ?_⟩
    · refine (boolWord_eq_zero_or_one _).resolve_right fun hone => ?_
      obtain ⟨numbers, -⟩ := one_iff.1 hone
      exact absurd (hnan.symm.trans numbers) (by decide)
    · have numbers : (va.isNaN || vb.isNaN) = false := by rw [ha, hb]; rfl
      rw [one_iff, and_iff_right numbers, Fmt.toRat_unpack_of_finite ha, Fmt.toRat_unpack_of_finite hb]
      exact hop.order (sameOrder_keyValue ..)
    · obtain ⟨ha, hb⟩ := Bool.or_eq_false_iff.1 hnan
      rw [one_iff, and_iff_right hnan]
      refine hop.order (Fmt.sameOrder_side ha hb (hinf.imp ?_ ?_)) <;>
        exact fun ⟨_, hv⟩ => Fmt.infiniteKey_of_inf hv
  clear_value done
  exact ⟨⟨law compares_eq rfl, law compares_eq rfl, law compares_eq rfl⟩,
    ⟨law compares_lt rfl, law compares_lt rfl, law compares_lt rfl⟩,
    ⟨law compares_le rfl, law compares_le rfl, law compares_le rfl⟩⟩

end Sys2Proof.Machine
end

section
/-! What the arithmetic operations give by the kinds of their operands (R421, R422): a NaN, an infinity, a zero or
another finite number. -/

namespace Sys2Proof.Machine

/-! ### The kinds of values -/

/-- A zero of either sign. -/
def FVal.IsZero (v : FVal) : Prop := ∃ n e, v = .finite n 0 e

/-- An infinity of either sign. -/
def FVal.IsInf (v : FVal) : Prop := ∃ n, v = .inf n

/-- A finite number. -/
def FVal.IsFinite (v : FVal) : Prop := ∃ n k e, v = .finite n k e

/-- Zero times infinity, in either order (R421). -/
def InvalidProduct (a b : FVal) : Prop := (a.IsZero ∧ b.IsInf) ∨ (a.IsInf ∧ b.IsZero)

/-- The sign of a number; a NaN has none. -/
def FVal.isNeg : FVal → Bool
  | .nan _ => false
  | .inf neg => neg
  | .finite neg _ _ => neg

theorem Fmt.isNeg_unpack {m : Fmt} {v : FWord} (h : (m.unpack v).isNaN = false) : (m.unpack v).isNeg = m.sign v := by
  simp only [Fmt.unpack] at h ⊢
  split_ifs at h ⊢
  · rfl
  · cases h
  · rfl
  · rfl

/-- A value with the sign a fused form gives it (R422). -/
def FVal.negateIf (n : Bool) (v : FVal) : FVal := if n then v.negate else v

section
variable (n : Bool) (v : FVal)

theorem FVal.isNaN_negateIf : (v.negateIf n).isNaN = v.isNaN := by cases n <;> cases v <;> rfl

theorem FVal.isSignaling_negateIf : (v.negateIf n).isSignaling = v.isSignaling := by cases n <;> cases v <;> rfl

theorem FVal.negateIf_inf (neg : Bool) : (FVal.inf neg).negateIf n = .inf (n != neg) := by cases n <;> cases neg <;> rfl

theorem FVal.negateIf_finite (neg : Bool) (mant : Nat) (exp : Int) :
    (FVal.finite neg mant exp).negateIf n = .finite (n != neg) mant exp := by
  cases n <;> cases neg <;> rfl

end

theorem FVal.IsZero.negateIf {v : FVal} (h : v.IsZero) (n : Bool) : (v.negateIf n).IsZero := by
  obtain ⟨neg, e, rfl⟩ := h
  exact ⟨_, _, FVal.negateIf_finite ..⟩

theorem FVal.IsInf.negateIf {v : FVal} (h : v.IsInf) (n : Bool) : (v.negateIf n).IsInf := by
  obtain ⟨neg, rfl⟩ := h
  exact ⟨_, FVal.negateIf_inf ..⟩

theorem FVal.IsFinite.negateIf {v : FVal} (h : v.IsFinite) (n : Bool) : (v.negateIf n).IsFinite := by
  obtain ⟨neg, k, e, rfl⟩ := h
  exact ⟨_, _, _, FVal.negateIf_finite ..⟩

theorem FVal.negateIf_negateIf (n : Bool) (v : FVal) : (v.negateIf n).negateIf n = v := by
  cases n with
  | false => rfl
  | true => cases v <;> simp [FVal.negateIf, FVal.negate]

theorem InvalidProduct.negateIf {a b : FVal} (h : InvalidProduct a b) (n : Bool) : InvalidProduct (a.negateIf n) b :=
  h.imp (And.imp_left (·.negateIf n)) (And.imp_left (·.negateIf n))

theorem invalidProduct_negateIf_iff {a b : FVal} (n : Bool) :
    InvalidProduct (a.negateIf n) b ↔ InvalidProduct a b :=
  ⟨fun h => a.negateIf_negateIf n ▸ h.negateIf n, (·.negateIf n)⟩

/-! ### Sums -/

section
variable {m : Fmt} {mode : Rounding} {a b : FVal}

theorem Fmt.addValues_nan (h : a.isNaN = true ∨ b.isNaN = true) :
    m.addValues mode a b = m.nanResult (a.isSignaling || b.isSignaling) :=
  if_pos (Bool.or_eq_true_iff.2 h)

theorem Fmt.addValues_inf_inf (n : Bool) : m.addValues mode (.inf n) (.inf n) = (m.infinity n, noFlags) :=
  if_pos rfl

theorem Fmt.addValues_opposite_infs {n n' : Bool} (h : n ≠ n') :
    m.addValues mode (.inf n) (.inf n') = m.nanResult true := if_neg h

theorem Fmt.addValues_inf_finite (n : Bool) (hb : b.IsFinite) :
    m.addValues mode (.inf n) b = (m.infinity n, noFlags) := by
  obtain ⟨neg, k, e, rfl⟩ := hb
  rfl

theorem Fmt.addValues_finite_inf (ha : a.IsFinite) (n : Bool) :
    m.addValues mode a (.inf n) = (m.infinity n, noFlags) := by
  obtain ⟨neg, k, e, rfl⟩ := ha
  rfl

/-! ### Products -/

theorem exactProduct_invalid (h : InvalidProduct a b) : exactProduct a b = none := by
  rcases h with ⟨⟨n, e, rfl⟩, ⟨n', rfl⟩⟩ | ⟨⟨n', rfl⟩, ⟨n, e, rfl⟩⟩ <;> rfl

theorem exactProduct_nan (h : a.isNaN = true ∨ b.isNaN = true) :
    exactProduct a b = some (.nan (a.isSignaling || b.isSignaling)) := by
  cases a with
  | nan sig => cases b <;> simp [exactProduct, FVal.isSignaling]
  | inf n | finite n k e =>
    cases b with
    | nan sig => rfl
    | inf n' | finite n' k' e' => simp [FVal.isNaN] at h

/-- An infinity times a number that is not zero. -/
theorem exactProduct_inf (hvalid : ¬ InvalidProduct a b) (ha : a.isNaN = false) (hb : b.isNaN = false)
    (h : a.IsInf ∨ b.IsInf) : exactProduct a b = some (.inf (a.isNeg != b.isNeg)) := by
  cases a with
  | nan sig => cases ha
  | inf n =>
    cases b with
    | nan sig => cases hb
    | inf n' => rfl
    | finite n' k' e' => exact if_neg fun hk => hvalid (.inr ⟨⟨n, rfl⟩, ⟨n', e', by rw [hk]⟩⟩)
  | finite n k e =>
    cases b with
    | nan sig => cases hb
    | inf n' => exact if_neg fun hk => hvalid (.inl ⟨⟨n, e, by rw [hk]⟩, ⟨n', rfl⟩⟩)
    | finite n' k' e' => rcases h with ⟨_, h⟩ | ⟨_, h⟩ <;> cases h

/-- A product that is valid and of numbers is a number. -/
theorem exactProduct_number (hvalid : ¬ InvalidProduct a b) (ha : a.isNaN = false) (hb : b.isNaN = false) :
    ∃ p, exactProduct a b = some p ∧ p.isNaN = false := by
  by_cases h : a.IsInf ∨ b.IsInf
  · exact ⟨_, exactProduct_inf hvalid ha hb h, rfl⟩
  · cases a with
    | nan sig => cases ha
    | inf n => exact absurd (.inl ⟨n, rfl⟩) h
    | finite n k e =>
      cases b with
      | nan sig => cases hb
      | inf n' => exact absurd (.inr ⟨n', rfl⟩) h
      | finite n' k' e' => exact ⟨_, rfl, rfl⟩

end

/-! ### The operations on patterns -/

section
variable {m : Fmt} {mode : Rounding} {a b c : FWord} {n1 n2 : Bool}

theorem Fmt.mul_of_invalid (h : exactProduct (m.unpack a) (m.unpack b) = none) :
    m.mul mode a b = m.nanResult true := by simp only [Fmt.mul, h]

theorem Fmt.mul_of_nan {sig : Bool} (h : exactProduct (m.unpack a) (m.unpack b) = some (.nan sig)) :
    m.mul mode a b = m.nanResult sig := by simp only [Fmt.mul, h]

theorem Fmt.mul_of_inf {neg : Bool} (h : exactProduct (m.unpack a) (m.unpack b) = some (.inf neg)) :
    m.mul mode a b = (m.infinity neg, noFlags) := by simp only [Fmt.mul, h]

theorem Fmt.mul_of_finite {na nb : Bool} {ma mb : Nat} {ea eb : Int} (ha : m.unpack a = .finite na ma ea)
    (hb : m.unpack b = .finite nb mb eb) :
    m.mul mode a b = m.roundFinite mode (na != nb) (ma * mb) (ea + eb) := by
  simp only [Fmt.mul, ha, hb, exactProduct]

theorem Fmt.fma_of_invalid (h : exactProduct ((m.unpack a).negateIf n1) (m.unpack b) = none) :
    m.fma mode n1 n2 a b c = m.nanResult true := by
  simp only [FVal.negateIf] at h
  simp only [Fmt.fma, h]

theorem Fmt.fma_of_product {p : FVal} (h : exactProduct ((m.unpack a).negateIf n1) (m.unpack b) = some p) :
    m.fma mode n1 n2 a b c = m.addValues mode p ((m.unpack c).negateIf n2) := by
  simp only [FVal.negateIf] at h ⊢
  simp only [Fmt.fma, h]

theorem Fmt.div_nan (h : (m.unpack a).isNaN = true ∨ (m.unpack b).isNaN = true) :
    m.div mode a b = m.nanResult ((m.unpack a).isSignaling || (m.unpack b).isSignaling) := by
  simp only [Fmt.div]
  cases ha : m.unpack a with
  | nan sig => rfl
  | inf n | finite n k e =>
    cases hb : m.unpack b with
    | nan sig => rfl
    | inf n' | finite n' k' e' => simp [FVal.isNaN, ha, hb] at h

theorem Fmt.div_inf_inf (ha : (m.unpack a).IsInf) (hb : (m.unpack b).IsInf) : m.div mode a b = m.nanResult true := by
  obtain ⟨n, ha⟩ := ha
  obtain ⟨n', hb⟩ := hb
  simp only [Fmt.div, ha, hb]

theorem Fmt.div_inf_finite {na : Bool} (ha : m.unpack a = .inf na) {nb : Bool} {mb : Nat} {eb : Int}
    (hb : m.unpack b = .finite nb mb eb) : m.div mode a b = (m.infinity (na != nb), noFlags) := by
  simp only [Fmt.div, ha, hb]

theorem Fmt.div_finite_inf {na : Bool} {ma : Nat} {ea : Int} (ha : m.unpack a = .finite na ma ea) {nb : Bool}
    (hb : m.unpack b = .inf nb) : m.div mode a b = (m.zero (na != nb), noFlags) := by
  simp only [Fmt.div, ha, hb]

theorem Fmt.div_zero_zero (ha : (m.unpack a).IsZero) (hb : (m.unpack b).IsZero) :
    m.div mode a b = m.nanResult true := by
  obtain ⟨n, e, ha⟩ := ha
  obtain ⟨n', e', hb⟩ := hb
  simp only [Fmt.div, ha, hb, if_true]

theorem Fmt.div_by_zero {na nb : Bool} {ma : Nat} {ea eb : Int} (hma : ma ≠ 0) (ha : m.unpack a = .finite na ma ea)
    (hb : m.unpack b = .finite nb 0 eb) : m.div mode a b = (m.infinity (na != nb), flagDZ) := by
  simp only [Fmt.div, ha, hb, if_true, if_neg hma]

theorem Fmt.sqrt_nan (h : (m.unpack a).isNaN = true) : m.sqrt mode a = m.nanResult (m.unpack a).isSignaling := by
  simp only [Fmt.sqrt]
  cases ha : m.unpack a with
  | nan sig => rfl
  | inf n | finite n k e => simp [FVal.isNaN, ha] at h

theorem Fmt.sqrt_inf (h : m.unpack a = .inf false) : m.sqrt mode a = (m.infinity false, noFlags) := by
  simp only [Fmt.sqrt, h]
  rfl

theorem Fmt.sqrt_minus_inf (h : m.unpack a = .inf true) : m.sqrt mode a = m.nanResult true := by
  simp only [Fmt.sqrt, h, if_true]

theorem Fmt.sqrt_negative {mant : Nat} {exp : Int} (hmant : mant ≠ 0) (h : m.unpack a = .finite true mant exp) :
    m.sqrt mode a = m.nanResult true := by
  simp only [Fmt.sqrt, h, if_neg hmant, if_true]

theorem Fmt.sqrt_zero {neg : Bool} {exp : Int} (h : m.unpack a = .finite neg 0 exp) :
    m.sqrt mode a = (m.zero neg, noFlags) := by
  simp only [Fmt.sqrt, h, if_true]

end

end Sys2Proof.Machine
end

section
/-! The proof of O47: the invalid operations, the NaNs, and the valid operations on infinities (R421, R422). -/

namespace Sys2Proof.Machine

/-! ### The signs of patterns -/

section
variable {m : Fmt} {v : FWord} {neg : Bool}

theorem Fmt.sign_of_inf (h : m.unpack v = .inf neg) : m.sign v = neg := (Fmt.unpack_eq_inf h).2

theorem Fmt.sign_of_finite {mant : Nat} {exp : Int} (h : m.unpack v = .finite neg mant exp) : m.sign v = neg := by
  have hsign := Fmt.isNeg_unpack (m := m) (v := v) (by rw [h]; rfl)
  rw [← hsign, h]
  rfl

end

theorem FVal.isNeg_negateIf {v : FVal} (h : v.isNaN = false) (n : Bool) : (v.negateIf n).isNeg = (n != v.isNeg) := by
  cases v with
  | nan sig => cases h
  | inf neg => rw [FVal.negateIf_inf]; rfl
  | finite neg mant exp => rw [FVal.negateIf_finite]; rfl

/-- An infinity times a number that is not zero (R421). -/
def InfiniteProduct (a b : FVal) : Prop :=
  ¬ InvalidProduct a b ∧ a.isNaN = false ∧ b.isNaN = false ∧ (a.IsInf ∨ b.IsInf)

section
variable {m : Fmt} {mode : Rounding} {a b c : FWord}

/-- Its sign is the exclusive or of the signs, one of them as a fused form gives it. -/
theorem InfiniteProduct.exactProduct_eq (h : InfiniteProduct (m.unpack a) (m.unpack b)) (n : Bool) :
    exactProduct ((m.unpack a).negateIf n) (m.unpack b) = some (.inf (n != (m.sign a != m.sign b))) := by
  obtain ⟨hvalid, ha, hb, hinf⟩ := h
  rw [exactProduct_inf (mt (invalidProduct_negateIf_iff n).1 hvalid) (by rwa [FVal.isNaN_negateIf]) hb
    (hinf.imp_left (·.negateIf n)), FVal.isNeg_negateIf ha, Fmt.isNeg_unpack ha, Fmt.isNeg_unpack hb]
  cases n <;> simp

/-! ### NaN operands -/

theorem Fmt.sub_nan (h : (m.unpack a).isNaN = true ∨ (m.unpack b).isNaN = true) :
    m.sub mode a b = m.nanResult ((m.unpack a).isSignaling || (m.unpack b).isSignaling) := by
  rw [← FVal.isNaN_negateIf true (m.unpack b)] at h
  rw [← FVal.isSignaling_negateIf true (m.unpack b)]
  exact Fmt.addValues_nan h

theorem Fmt.mul_nan (h : (m.unpack a).isNaN = true ∨ (m.unpack b).isNaN = true) :
    m.mul mode a b = m.nanResult ((m.unpack a).isSignaling || (m.unpack b).isSignaling) :=
  Fmt.mul_of_nan (exactProduct_nan h)

/-- A valid product and any NaN operand; the sign a fused form gives changes nothing. -/
theorem Fmt.fma_nan {n1 n2 : Bool} (hvalid : ¬ InvalidProduct (m.unpack a) (m.unpack b))
    (h : (m.unpack a).isNaN = true ∨ (m.unpack b).isNaN = true ∨ (m.unpack c).isNaN = true) :
    m.fma mode n1 n2 a b c =
      m.nanResult ((m.unpack a).isSignaling || (m.unpack b).isSignaling || (m.unpack c).isSignaling) := by
  rw [← FVal.isNaN_negateIf n1 (m.unpack a), ← FVal.isNaN_negateIf n2 (m.unpack c)] at h
  rw [← FVal.isSignaling_negateIf n1 (m.unpack a), ← FVal.isSignaling_negateIf n2 (m.unpack c)]
  by_cases hab : ((m.unpack a).negateIf n1).isNaN = true ∨ (m.unpack b).isNaN = true
  · rw [Fmt.fma_of_product (exactProduct_nan hab)]
    exact Fmt.addValues_nan (.inl rfl)
  · obtain ⟨ha, hb⟩ := not_or.1 hab
    obtain ⟨ha, hb⟩ := And.intro (Bool.eq_false_of_not_eq_true ha) (Bool.eq_false_of_not_eq_true hb)
    obtain ⟨p, hp, hnumber⟩ := exactProduct_number (mt (invalidProduct_negateIf_iff n1).1 hvalid) ha hb
    have hc : ((m.unpack c).negateIf n2).isNaN = true := by simpa [ha, hb] using h
    rw [Fmt.fma_of_product hp, Fmt.addValues_nan (.inr hc), FVal.isSignaling_of_isNaN_eq_false ha,
      FVal.isSignaling_of_isNaN_eq_false hb, FVal.isSignaling_of_isNaN_eq_false hnumber]
    rfl

/-! ### Invalid operations -/

theorem Fmt.fma_invalidProduct {n1 n2 : Bool} (h : InvalidProduct (m.unpack a) (m.unpack b)) :
    m.fma mode n1 n2 a b c = m.nanResult true := Fmt.fma_of_invalid (exactProduct_invalid (h.negateIf n1))

/-- An infinite product and the infinity of the other sign. -/
theorem Fmt.fma_opposite_infs {n1 n2 nc : Bool} (h : InfiniteProduct (m.unpack a) (m.unpack b))
    (hc : m.unpack c = .inf nc) (hsign : (n2 != nc) ≠ (n1 != (m.sign a != m.sign b))) :
    m.fma mode n1 n2 a b c = m.nanResult true := by
  rw [Fmt.fma_of_product (h.exactProduct_eq n1), hc, FVal.negateIf_inf]
  exact Fmt.addValues_opposite_infs hsign.symm

/-! ### Valid operations on infinities -/

/-- An infinity and a finite number, or the same infinity. -/
theorem Fmt.addValues_inf {n : Bool} {v : FVal} (h : v.IsFinite ∨ v = .inf n) :
    m.addValues mode (.inf n) v = (m.infinity n, noFlags) := by
  rcases h with hfinite | rfl
  · exact Fmt.addValues_inf_finite n hfinite
  · exact Fmt.addValues_inf_inf n

theorem Fmt.fma_infiniteProduct {n1 n2 : Bool} (h : InfiniteProduct (m.unpack a) (m.unpack b))
    (hc : (m.unpack c).IsFinite ∨ m.unpack c = .inf (n2 != (n1 != (m.sign a != m.sign b)))) :
    m.fma mode n1 n2 a b c = (m.infinity (n1 != (m.sign a != m.sign b)), noFlags) := by
  rw [Fmt.fma_of_product (h.exactProduct_eq n1)]
  refine Fmt.addValues_inf (hc.imp (·.negateIf n2) fun hc => ?_)
  rw [hc, FVal.negateIf_inf]
  cases n2 <;> simp

theorem Fmt.fma_infiniteAddend {n1 n2 nc : Bool} (ha : (m.unpack a).IsFinite) (hb : (m.unpack b).IsFinite)
    (hc : m.unpack c = .inf nc) : m.fma mode n1 n2 a b c = (m.infinity (n2 != nc), noFlags) := by
  obtain ⟨na, ma, ea, ha⟩ := ha.negateIf n1
  obtain ⟨nb, mb, eb, hb⟩ := hb
  rw [Fmt.fma_of_product (by rw [ha, hb]; rfl), hc, FVal.negateIf_inf]
  exact Fmt.addValues_finite_inf ⟨_, _, _, rfl⟩ _

end

/-- Settles O47, by the kinds of the operands. -/
theorem invalidOperationsGiveTheCanonicalNan : Obligations.InvalidOperationsGiveTheCanonicalNan := by
  unfold Obligations.InvalidOperationsGiveTheCanonicalNan
  intro m mode a b c va vb nan zero isInf finite vc sa sb invalidProduct infiniteProduct
  have negated {n : Bool} (h : vb = .inf n) : vb.negate = .inf !n := by rw [h]; rfl
  have infinity (n : Bool) : m.givesInfinity (m.infinity n, noFlags) n := m.givesInfinity_infinity n
  refine ⟨fun h => ⟨Fmt.addValues_nan h, Fmt.sub_nan h, Fmt.mul_nan h, Fmt.div_nan h⟩, Fmt.sqrt_nan,
    fun n ha hb => ?_, fun n ha hb => ?_, fun h => ⟨Fmt.mul_of_invalid (exactProduct_invalid h),
    fun n1 n2 => Fmt.fma_invalidProduct h⟩, fun h => ?_, fun h => ?_,
    fun na k ea nb eb ha hb => Fmt.div_by_zero k.succ_ne_zero ha hb, fun e ha => Fmt.sqrt_zero ha,
    fun n1 n2 => Fmt.fma_nan, fun n1 n2 nc => Fmt.fma_opposite_infs, fun n1 n2 h hc => ?_,
    fun n1 n2 nc ha hb hc => ?_, fun h => ?_, fun ⟨n, ha⟩ hb => ?_, fun ha ⟨n, hb⟩ => ?_, fun ⟨n, ha⟩ hb => ?_,
    fun ⟨n, ha⟩ ⟨nb, mb, eb, hb⟩ => ?_, fun ⟨na, ma, ea, ha⟩ ⟨n, hb⟩ => ?_, fun ha => ?_⟩
  · show m.addValues mode va vb.negate = _
    rw [ha, negated hb]
    exact Fmt.addValues_opposite_infs (by simp)
  · show m.addValues mode va vb = _
    rw [ha, hb]
    exact Fmt.addValues_opposite_infs (by simp)
  · rcases h with ⟨ha, hb⟩ | ⟨ha, hb⟩
    · exact Fmt.div_zero_zero ha hb
    · exact Fmt.div_inf_inf ha hb
  · rcases h with ha | ⟨k, e, ha⟩
    · exact Fmt.sqrt_minus_inf ha
    · exact Fmt.sqrt_negative k.succ_ne_zero ha
  · rw [Fmt.fma_infiniteProduct h hc]
    exact infinity _
  · rw [Fmt.fma_infiniteAddend ha hb hc]
    exact infinity _
  · rw [Fmt.mul_of_inf (InfiniteProduct.exactProduct_eq h false), Bool.false_bne]
    exact infinity _
  · have hsa : sa = n := Fmt.sign_of_inf ha
    show m.givesInfinity (m.addValues mode va vb) sa
    rw [ha, hsa, Fmt.addValues_inf (hsa ▸ hb)]
    exact infinity n
  · have hsb : sb = n := Fmt.sign_of_inf hb
    constructor
    · show m.givesInfinity (m.addValues mode va vb) sb
      rw [hb, hsb, Fmt.addValues_finite_inf ha]
      exact infinity n
    · show m.givesInfinity (m.addValues mode va vb.negate) (!sb)
      rw [negated hb, hsb, Fmt.addValues_finite_inf ha]
      exact infinity _
  · have hsa : sa = n := Fmt.sign_of_inf ha
    have hb : vb.negate.IsFinite ∨ vb.negate = .inf n :=
      hb.imp (FVal.IsFinite.negateIf · true) fun h => by rw [negated h, hsa, Bool.not_not]
    show m.givesInfinity (m.addValues mode va vb.negate) sa
    rw [ha, hsa, Fmt.addValues_inf hb]
    exact infinity n
  · have hsa : sa = n := Fmt.sign_of_inf ha
    have hsb : sb = nb := Fmt.sign_of_finite hb
    rw [hsa, hsb, Fmt.div_inf_finite ha hb]
    exact infinity _
  · have hsa : sa = na := Fmt.sign_of_finite ha
    have hsb : sb = n := Fmt.sign_of_inf hb
    rw [hsa, hsb, Fmt.div_finite_inf ha hb]
    exact m.givesZero_zero _
  · rw [Fmt.sqrt_inf ha]
    exact infinity false

end Sys2Proof.Machine
end

section
/-! Rounding a number that is not known exactly (R421): one that lies with another between two neighbours of a fine
grid rounds as that one does, at every place above the grid. This is why a quotient or a root may be cut short and its
last bit set (`jam`) before it is rounded. -/

namespace Sys2Proof.Machine

/-! ### Multiples of a power of two -/

/-- `c` is a multiple of `2^p`. -/
def OnGrid (p : Int) (c : Real) : Prop := ∃ k : Int, c = k * 2 ^ p

section
variable {p q : Int} {c d : Real}

theorem onGrid_zero (p : Int) : OnGrid p 0 := ⟨0, by simp⟩

theorem onGrid_intMul_two_zpow (h : p ≤ q) (k : Int) : OnGrid p (k * 2 ^ q) := by
  obtain ⟨j, rfl⟩ : ∃ j : Nat, q = j + p := ⟨(q - p).toNat, by omega⟩
  refine ⟨k * 2 ^ j, ?_⟩
  rw [zpow_add₀ two_ne_zero, zpow_natCast]
  push_cast
  ring

theorem onGrid_two_zpow (h : p ≤ q) : OnGrid p (2 ^ q) := by simpa using onGrid_intMul_two_zpow h 1

theorem OnGrid.neg (hc : OnGrid p c) : OnGrid p (-c) := by
  obtain ⟨k, rfl⟩ := hc
  exact ⟨-k, by push_cast; ring⟩

theorem OnGrid.add (hc : OnGrid p c) (hd : OnGrid p d) : OnGrid p (c + d) := by
  obtain ⟨j, rfl⟩ := hc
  obtain ⟨k, rfl⟩ := hd
  exact ⟨j + k, by push_cast; ring⟩

theorem OnGrid.sub (hc : OnGrid p c) (hd : OnGrid p d) : OnGrid p (c - d) := by
  rw [sub_eq_add_neg]
  exact hc.add hd.neg

theorem OnGrid.abs (hc : OnGrid p c) : OnGrid p |c| := by
  rcases abs_choice c with h | h <;> rw [h]
  · exact hc
  · exact hc.neg

end

/-! ### Numbers that the grid does not tell apart -/

/-- The two numbers are equal, or both lie inside one cell of the grid of `2^p`. -/
def SameCell (p : Int) (x y : Real) : Prop :=
  x = y ∨ ∃ n : Int, (n * 2 ^ p < x ∧ x < (n + 1) * 2 ^ p) ∧ n * 2 ^ p < y ∧ y < (n + 1) * 2 ^ p

section
variable {p : Int} {x y c : Real}

theorem SameCell.symm (h : SameCell p x y) : SameCell p y x := by
  rcases h with rfl | ⟨n, hx, hy⟩
  · exact .inl rfl
  · exact .inr ⟨n, hy, hx⟩

theorem SameCell.neg (h : SameCell p x y) : SameCell p (-x) (-y) := by
  rcases h with rfl | ⟨n, ⟨hx, hx'⟩, hy, hy'⟩
  · exact .inl rfl
  · refine .inr ⟨-n - 1, ⟨?_, ?_⟩, ?_, ?_⟩ <;> push_cast <;> linarith

theorem SameCell.lt_of_lt (h : SameCell p x y) (hc : OnGrid p c) (hlt : c < x) : c < y := by
  rcases h with rfl | ⟨n, ⟨-, hx⟩, hy, -⟩
  · exact hlt
  · obtain ⟨k, rfl⟩ := hc
    have hp : (0 : Real) < 2 ^ p := zpow_pos two_pos p
    have hk : (k : Real) < (n + 1 : Int) := by
      push_cast
      exact lt_of_mul_lt_mul_right (hlt.trans hx) hp.le
    have hk : (k : Real) ≤ n := by exact_mod_cast Int.lt_add_one_iff.1 (Int.cast_lt.1 hk)
    exact (mul_le_mul_of_nonneg_right hk hp.le).trans_lt hy

/-- A point of the grid lies on the same side of both. -/
theorem SameCell.lt_iff (h : SameCell p x y) (hc : OnGrid p c) : c < x ↔ c < y :=
  ⟨h.lt_of_lt hc, h.symm.lt_of_lt hc⟩

theorem SameCell.gt_iff (h : SameCell p x y) (hc : OnGrid p c) : x < c ↔ y < c := by
  rw [← neg_lt_neg_iff, h.neg.lt_iff hc.neg, neg_lt_neg_iff]

theorem SameCell.le_iff (h : SameCell p x y) (hc : OnGrid p c) : c ≤ x ↔ c ≤ y := by
  rw [← not_lt, h.gt_iff hc, not_lt]

theorem SameCell.ge_iff (h : SameCell p x y) (hc : OnGrid p c) : x ≤ c ↔ y ≤ c := by
  rw [← not_lt, h.lt_iff hc, not_lt]

theorem SameCell.eq_iff (h : SameCell p x y) (hc : OnGrid p c) : c = x ↔ c = y := by
  rw [le_antisymm_iff, le_antisymm_iff, h.le_iff hc, h.ge_iff hc]

theorem SameCell.le_abs_iff (h : SameCell p x y) (hc : OnGrid p c) : c ≤ |x| ↔ c ≤ |y| := by
  rw [le_abs', le_abs', h.ge_iff hc.neg, h.le_iff hc]

theorem SameCell.abs_lt_iff (h : SameCell p x y) (hc : OnGrid p c) : |x| < c ↔ |y| < c := by
  rw [← not_le, h.le_abs_iff hc, not_le]

/-- The distance to a point of the grid compares alike with a step of the grid. -/
theorem SameCell.dist_lt_iff (h : SameCell p x y) {d : Real} (hd : OnGrid p d) (hc : OnGrid p c) :
    |d - x| < c ↔ |d - y| < c := by
  have between (u : Real) : |d - u| < c ↔ d - c < u ∧ u < c + d :=
    abs_sub_lt_iff.trans (and_congr sub_lt_comm sub_lt_iff_lt_add)
  rw [between, between, h.lt_iff (hd.sub hc), h.gt_iff (hc.add hd)]

theorem SameCell.dist_le_iff (h : SameCell p x y) {d : Real} (hd : OnGrid p d) (hc : OnGrid p c) :
    |d - x| ≤ c ↔ |d - y| ≤ c := by
  have between (u : Real) : |d - u| ≤ c ↔ d - c ≤ u ∧ u ≤ c + d :=
    abs_sub_le_iff.trans (and_congr sub_le_comm sub_le_iff_le_add)
  rw [between, between, h.le_iff (hd.sub hc), h.ge_iff (hc.add hd)]

theorem SameCell.dist_eq_iff (h : SameCell p x y) {d : Real} (hd : OnGrid p d) (hc : OnGrid p c) :
    |d - x| = c ↔ |d - y| = c := by
  rw [eq_iff_le_not_lt, eq_iff_le_not_lt, h.dist_le_iff hd hc, h.dist_lt_iff hd hc]

/-! ### Rounding does not tell them apart either -/

/-- At a place above the grid, half of which is on the grid. -/
theorem SameCell.roundsTo (h : SameCell p x y) {mode : Rounding} {lsb : Int} (hp : p + 1 ≤ lsb) {r : Real}
    (hr : roundsTo mode lsb x r) : roundsTo mode lsb y r := by
  obtain ⟨n, hn, hdist, rne, rmm, rtz, rdn, rup⟩ := hr
  have ulp : OnGrid p (2 ^ lsb) := onGrid_two_zpow (by omega)
  have half : OnGrid p ((2 : Real) ^ lsb / 2) := by
    rw [div_eq_mul_inv, ← zpow_sub_one₀ two_ne_zero]
    exact onGrid_two_zpow (by omega)
  have place : OnGrid p r := hn ▸ onGrid_intMul_two_zpow (by omega) n
  rw [h.dist_lt_iff place ulp] at hdist
  rw [h.dist_le_iff place half, h.dist_eq_iff place half] at rne rmm
  rw [h.abs_lt_iff place.abs] at rmm
  rw [h.le_abs_iff place.abs] at rtz
  rw [h.le_iff place] at rdn
  rw [h.ge_iff place] at rup
  exact ⟨n, hn, hdist, rne, rmm, rtz, rdn, rup⟩

theorem roundsTo_onGrid {mode : Rounding} {lsb : Int} (hp : p ≤ lsb) (h : roundsTo mode lsb x c) : OnGrid p c := by
  obtain ⟨n, rfl, -⟩ := h
  exact onGrid_intMul_two_zpow hp n

/-- A number of at least `2^fracBits` double steps of the grid has its last place above the grid. -/
theorem SameCell.rounds (h : SameCell p x y) {m : Fmt} {mode : Rounding} {r : FWord × FFlags}
    (hlarge : (2 : Real) ^ (p + 1 + m.fracBits) ≤ |x|) (hr : m.rounds mode x r) : m.rounds mode y r := by
  obtain ⟨top, v, z, largest, lower, upper, hv, hz, hlargest, hover, hfinite⟩ := hr
  have htop : p + 1 ≤ top - m.fracBits := by
    have := (zpow_lt_zpow_iff_right₀ (one_lt_two (α := Real))).1 (hlarge.trans_lt upper)
    omega
  have hplace : p + 1 ≤ max (top - m.fracBits) m.minLsb := htop.trans (le_max_left _ _)
  have place : OnGrid p v := roundsTo_onGrid (by omega) hv
  rw [h.le_abs_iff (onGrid_two_zpow (by omega))] at lower
  rw [h.abs_lt_iff (onGrid_two_zpow (by omega))] at upper
  simp only [h.gt_iff (onGrid_zero p), h.lt_iff (onGrid_zero p)] at hover
  simp only [h.gt_iff (onGrid_zero p), ne_eq, h.eq_iff place] at hfinite
  exact ⟨top, v, z, largest, lower, upper, h.roundsTo hplace hv, h.roundsTo htop hz, hlargest, hover, hfinite⟩

end

/-! ### A number cut short, with its sticky bit -/

theorem jam_true (n : Nat) : jam n true = 2 * n + 1 := rfl

theorem jam_false (n : Nat) : jam n false = 2 * n := rfl

/-- `x` cut to `n` units of `2^e`, and whether anything was dropped. -/
def CutTo (x : Real) (n : Nat) (dropped : Bool) (e : Int) : Prop :=
  (dropped = false → x = n * 2 ^ e) ∧ (dropped = true → n * 2 ^ e < x ∧ x < (n + 1) * 2 ^ e)

theorem CutTo.sameCell {x : Real} {n : Nat} {dropped : Bool} {e : Int} (h : CutTo x n dropped e) :
    SameCell e (jam n dropped * 2 ^ (e - 1)) x := by
  obtain ⟨exact, between⟩ := h
  have hunit : (0 : Real) < 2 ^ e := zpow_pos two_pos e
  rw [zpow_sub_one₀ two_ne_zero]
  cases dropped with
  | false =>
    rw [jam_false, exact rfl]
    push_cast
    exact .inl (by ring)
  | true =>
    obtain ⟨above, below⟩ := between rfl
    rw [jam_true]
    refine .inr ⟨n, ⟨?_, ?_⟩, by exact_mod_cast above, by exact_mod_cast below⟩ <;> push_cast <;> nlinarith

/-- Rounding what was cut short, its last bit set where anything was dropped, rounds the number itself. -/
theorem Fmt.rounds_round_jam {m : Fmt} {mode : Rounding} {neg : Bool} {x : Real} {n : Nat} {dropped : Bool} {e : Int}
    (h : CutTo x n dropped e) (hn : 2 ^ (m.fracBits + 1) ≤ n) :
    m.rounds mode (signFactor neg * x) (m.round mode neg (jam n dropped) (e - 1)) := by
  have hpos : 0 < n := (Nat.two_pow_pos _).trans_le hn
  have hjam : 2 * n ≤ jam n dropped := Nat.le_add_right _ _
  have value : ((FVal.finite neg (jam n dropped) (e - 1)).toRat : Real) =
      signFactor neg * (jam n dropped * 2 ^ (e - 1)) := by
    cases neg <;> simp [FVal.toRat, signFactor]
  have cell : SameCell e ((FVal.finite neg (jam n dropped) (e - 1)).toRat : Real) (signFactor neg * x) := by
    rw [value]
    cases neg with
    | false => simpa [signFactor] using h.sameCell
    | true => simpa [signFactor] using h.sameCell.neg
  refine cell.rounds ?_ (Fmt.rounds_round (by omega))
  have large : ((2 ^ (m.fracBits + 2) : Nat) : Rat) ≤ jam n dropped := by
    rw [Nat.cast_le, pow_succ]
    omega
  have : (2 : Rat) ^ (e + 1 + m.fracBits) ≤ |(FVal.finite neg (jam n dropped) (e - 1)).toRat| := by
    calc (2 : Rat) ^ (e + 1 + m.fracBits) = (2 ^ (m.fracBits + 2) : Nat) * 2 ^ (e - 1) := by
          push_cast
          rw [← zpow_natCast, ← zpow_add₀ two_ne_zero]
          congr 1
          push_cast
          ring
      _ ≤ jam n dropped * 2 ^ (e - 1) := mul_le_mul_of_nonneg_right large (zpow_pos two_pos _).le
      _ = |(FVal.finite neg (jam n dropped) (e - 1)).toRat| := (abs_toRat_finite ..).symm
  rw [← ratCast_two_zpow]
  exact_mod_cast this

end Sys2Proof.Machine
end

section
/-! What correct rounding is, and that sums, products and fused forms of finite operands are rounded correctly (R421,
R422): the exact result is computed over the integers and rounded once by `Fmt.round`. -/

namespace Sys2Proof.Machine

/-! ### Correct rounding -/

/-- `r` is the exact result `x` rounded once, and a zero of sign `neg` where `x` is zero (R421). -/
structure Fmt.CorrectlyRounded (m : Fmt) (mode : Rounding) (x : Rat) (neg : Prop) (r : FWord × FFlags) : Prop where
  zero : x = 0 → m.givesZero r neg
  rounds : x ≠ 0 → m.rounds mode (x : Real) r

section
variable {m : Fmt} {mode : Rounding} {r : FWord × FFlags} {neg : Prop}

/-- A rounding that raises no flag gives the number itself. -/
theorem Fmt.standsFor_of_rounds {x : Real} (h : m.rounds mode x r) (hflags : r.2 = noFlags) :
    m.standsFor r.1 (x < 0) x := by
  obtain ⟨top, y, z, largest, -, -, -, -, -, hover, hfinite⟩ := h
  rw [hflags] at hover hfinite
  rcases lt_or_ge largest |y| with hlarge | hsmall
  · exact absurd (hover hlarge).1 (by decide)
  · obtain ⟨stands, -, tiny, normal⟩ := hfinite hsmall
    by_cases hexact : y = x
    · rwa [hexact] at stands
    · rcases lt_or_ge |z| ((2 : Real) ^ (1 - (m.bias : Int))) with hz | hz
      · exact absurd (tiny hexact hz) (by decide)
      · exact absurd (normal hexact hz) (by decide)

theorem Fmt.CorrectlyRounded.exact {x : Rat} (h : m.CorrectlyRounded mode x neg r) (hflags : r.2 = noFlags) :
    (∃ n k e, m.unpack r.1 = .finite n k e) ∧ (m.unpack r.1).toRat = x := by
  by_cases hx : x = 0
  · obtain ⟨-, n, e, hunpack, -⟩ := h.zero hx
    exact ⟨⟨n, 0, e, hunpack⟩, by rw [hunpack, FVal.toRat_zero, hx]⟩
  · obtain ⟨n, k, e, hunpack, -, hvalue⟩ := Fmt.standsFor_of_rounds (h.rounds hx) hflags
    exact ⟨⟨n, k, e, hunpack⟩, by rw [hunpack]; exact_mod_cast hvalue⟩

theorem Fmt.givesZero_zero_of_iff {n : Bool} (h : n = true ↔ neg) : m.givesZero (m.zero n, noFlags) neg :=
  propext h ▸ m.givesZero_zero n

/-- An exact zero. -/
theorem Fmt.correctlyRounded_zero {x : Rat} (hx : x = 0) {n : Bool} (h : n = true ↔ neg) :
    m.CorrectlyRounded mode x neg (m.zero n, noFlags) :=
  ⟨fun _ => Fmt.givesZero_zero_of_iff h, fun hne => absurd hx hne⟩

theorem toRat_finite_ne_zero {n : Bool} {mant : Nat} {exp : Int} (hmant : mant ≠ 0) :
    (FVal.finite n mant exp).toRat ≠ 0 := by
  rw [← abs_ne_zero, abs_toRat_finite]
  positivity

theorem toRat_finite_eq_zero_iff {n : Bool} {mant : Nat} {exp : Int} :
    (FVal.finite n mant exp).toRat = 0 ↔ mant = 0 :=
  ⟨not_imp_not.1 toRat_finite_ne_zero, fun h => h ▸ FVal.toRat_zero n exp⟩

/-- A nonzero number that `Fmt.round` rounds. -/
theorem Fmt.correctlyRounded_round {n : Bool} {mant : Nat} {exp : Int} (hmant : mant ≠ 0) :
    m.CorrectlyRounded mode (FVal.finite n mant exp).toRat neg (m.round mode n mant exp) :=
  ⟨fun hx => absurd hx (toRat_finite_ne_zero hmant), fun _ => Fmt.rounds_round hmant⟩

theorem Fmt.correctlyRounded_roundFinite {n : Bool} {mant : Nat} {exp : Int} (h : n = true ↔ neg) :
    m.CorrectlyRounded mode (FVal.finite n mant exp).toRat neg (m.roundFinite mode n mant exp) := by
  rw [Fmt.roundFinite]
  split
  · next hzero => exact Fmt.correctlyRounded_zero (toRat_finite_eq_zero_iff.2 hzero) h
  · next hmant => exact Fmt.correctlyRounded_round hmant

end

/-! ### Sums -/

/-- The sign of an exact zero sum: that of both, or where they differ minus under RDN alone (R421). -/
def ZeroSumIsMinus (mode : Rounding) (n n' : Bool) : Prop := (n = true ∧ n' = true) ∨ (n ≠ n' ∧ mode = .rdn)

theorem zeroSumIsMinus_iff (mode : Rounding) (n n' : Bool) :
    (if n = n' then n else mode == .rdn) = true ↔ ZeroSumIsMinus mode n n' := by
  cases n <;> cases n' <;> simp [ZeroSumIsMinus]

theorem scaled_toRat {neg : Bool} {mant : Nat} {exp lsb : Int} (h : lsb ≤ exp) :
    (scaled neg mant exp lsb : Rat) * 2 ^ lsb = (FVal.finite neg mant exp).toRat := by
  rw [FVal.toRat, two_zpow_eq h]
  cases neg <;> simp [scaled, mul_assoc]

/-- A signed integer of units `2^lsb`. -/
theorem toRat_finite_natAbs_mul (v lsb : Int) : (FVal.finite (decide (v < 0)) v.natAbs lsb).toRat = v * 2 ^ lsb := by
  have units := toRat_finite_natAbs v
  rw [FVal.toRat, zpow_zero, mul_one] at units
  rw [FVal.toRat, units]

/-- The sum of two finite values in units of `2^(min ea eb)`. -/
def sumUnits (na : Bool) (ma : Nat) (ea : Int) (nb : Bool) (mb : Nat) (eb : Int) : Int :=
  scaled na ma ea (min ea eb) + scaled nb mb eb (min ea eb)

section
variable {m : Fmt} {mode : Rounding} {na nb nc : Bool} {ma mb mc : Nat} {ea eb ec : Int}

theorem sumUnits_toRat : (sumUnits na ma ea nb mb eb : Rat) * 2 ^ min ea eb =
    (FVal.finite na ma ea).toRat + (FVal.finite nb mb eb).toRat := by
  rw [sumUnits, Int.cast_add, add_mul, scaled_toRat (min_le_left ..), scaled_toRat (min_le_right ..)]

theorem Fmt.addValues_finite : m.addValues mode (.finite na ma ea) (.finite nb mb eb) =
    if sumUnits na ma ea nb mb eb = 0 then (m.zero (if na = nb then na else mode == .rdn), noFlags)
    else m.round mode (decide (sumUnits na ma ea nb mb eb < 0)) (sumUnits na ma ea nb mb eb).natAbs (min ea eb) := rfl

theorem Fmt.addValues_correctlyRounded :
    m.CorrectlyRounded mode ((FVal.finite na ma ea).toRat + (FVal.finite nb mb eb).toRat) (ZeroSumIsMinus mode na nb)
      (m.addValues mode (.finite na ma ea) (.finite nb mb eb)) := by
  rw [Fmt.addValues_finite, ← sumUnits_toRat]
  split
  · next hzero => exact Fmt.correctlyRounded_zero (by rw [hzero, Int.cast_zero, zero_mul]) (zeroSumIsMinus_iff ..)
  · next hsum =>
    rw [← toRat_finite_natAbs_mul]
    exact Fmt.correctlyRounded_round (Int.natAbs_ne_zero.2 hsum)

/-! ### The operations on finite operands -/

theorem toRat_negateIf (n : Bool) (v : FVal) : (v.negateIf n).toRat = signFactor n * v.toRat := by
  cases n with
  | false => simp [FVal.negateIf, signFactor]
  | true => rcases v with _ | _ | ⟨_ | _, k, e⟩ <;> simp [FVal.negateIf, FVal.negate, FVal.toRat, signFactor]

theorem toRat_product : (FVal.finite (na != nb) (ma * mb) (ea + eb)).toRat =
    (FVal.finite na ma ea).toRat * (FVal.finite nb mb eb).toRat := by
  rw [FVal.toRat, FVal.toRat, FVal.toRat, zpow_add₀ two_ne_zero]
  cases na <;> cases nb <;> simp <;> ring

variable {a b c : FWord}

theorem Fmt.add_correctlyRounded (ha : m.unpack a = .finite na ma ea) (hb : m.unpack b = .finite nb mb eb) :
    m.CorrectlyRounded mode ((m.unpack a).toRat + (m.unpack b).toRat) (ZeroSumIsMinus mode na nb) (m.add mode a b) := by
  rw [Fmt.add, ha, hb]
  exact Fmt.addValues_correctlyRounded

theorem Fmt.sub_correctlyRounded (ha : m.unpack a = .finite na ma ea) (hb : m.unpack b = .finite nb mb eb) :
    m.CorrectlyRounded mode ((m.unpack a).toRat - (m.unpack b).toRat) (ZeroSumIsMinus mode na (!nb))
      (m.sub mode a b) := by
  have negated : (FVal.finite (!nb) mb eb).toRat = -(FVal.finite nb mb eb).toRat :=
    (toRat_negateIf true (.finite nb mb eb)).trans (neg_one_mul _)
  rw [Fmt.sub, ha, hb, sub_eq_add_neg, ← negated]
  exact Fmt.addValues_correctlyRounded

theorem Fmt.mul_correctlyRounded (ha : m.unpack a = .finite na ma ea) (hb : m.unpack b = .finite nb mb eb) :
    m.CorrectlyRounded mode ((m.unpack a).toRat * (m.unpack b).toRat) (na ≠ nb) (m.mul mode a b) := by
  rw [Fmt.mul_of_finite ha hb, ha, hb, ← toRat_product]
  exact Fmt.correctlyRounded_roundFinite bne_iff_ne

/-- The product of a fused form is exact, and the sum is rounded once (R422). -/
theorem Fmt.fma_correctlyRounded (n1 n2 : Bool) (ha : m.unpack a = .finite na ma ea)
    (hb : m.unpack b = .finite nb mb eb) (hc : m.unpack c = .finite nc mc ec) :
    m.CorrectlyRounded mode
      (signFactor n1 * ((m.unpack a).toRat * (m.unpack b).toRat) + signFactor n2 * (m.unpack c).toRat)
      (ZeroSumIsMinus mode (n1 != (na != nb)) (n2 != nc)) (m.fma mode n1 n2 a b c) := by
  have hproduct : exactProduct ((m.unpack a).negateIf n1) (m.unpack b) =
      some (.finite ((n1 != na) != nb) (ma * mb) (ea + eb)) := by
    rw [ha, hb, FVal.negateIf_finite]
    rfl
  rw [Fmt.fma_of_product hproduct, ← mul_assoc, ← toRat_negateIf, ← toRat_negateIf, ha, hb, hc,
    FVal.negateIf_finite, FVal.negateIf_finite, ← toRat_product, ← Bool.bne_assoc]
  exact Fmt.addValues_correctlyRounded

end

/-! ### The fused forms -/

/-- The law of the fused forms (R422). -/
theorem completesF_of_arith3 {i j : Instr} {s : State} {m : Fmt} {n1 n2 : Bool} {rd rs1 rs2 rs3 : RegIdx}
    {rm : BitVec 3} {mode : Rounding} (hmode : s.resolve rm = some mode) (hw : m.width ≤ s.cfg.flen)
    (h : exec i s = s.arith3 j m n1 n2 rd rs1 rs2 rs3 rm) :
    completesF i 4 s m rd (m.fma mode n1 n2 (s.unbox m rs1) (s.unbox m rs2) (s.unbox m rs3)) :=
  completesF_of_finishF hw (by rw [h, State.arith3, State.withRounding_some hmode])

/-- Settles O46: each is `arith3` with its signs, and `Fmt.fma` rounds its exact result once. -/
theorem fusedMultiplyAddsRoundOnce : Obligations.FusedMultiplyAddsRoundOnce := by
  unfold Obligations.FusedMultiplyAddsRoundOnce
  refine ⟨fun s rd rs1 rs2 rs3 rm mode hmode => ?_,
    fun m mode n1 n2 a b c na nb nc ma mb mc ea eb ec ha hb hc => (Fmt.fma_correctlyRounded n1 n2 ha hb hc).rounds⟩
  intro done
  have law {i : Instr} {m : Fmt} {n1 n2 : Bool} (hm : m.letter ∈ (i.row s.cfg.xlen).ext)
      (h : exec i s = s.arith3 i m n1 n2 rd rs1 rs2 rs3 rm) : done i m n1 n2 :=
    fun hi => completesF_of_arith3 hmode (Fmt.width_le_flen hi hm) h
  have demanded {l : List Letter} {a : Letter} : a ∈ a :: l := List.mem_cons_self
  clear_value done
  exact ⟨⟨law demanded rfl, law demanded rfl, law demanded rfl⟩, ⟨law demanded rfl, law demanded rfl, law demanded rfl⟩,
    ⟨law demanded rfl, law demanded rfl, law demanded rfl⟩, ⟨law demanded rfl, law demanded rfl, law demanded rfl⟩⟩

end Sys2Proof.Machine
end

section
/-! The proof of O49. Division and square root are cut to an integer of enough bits and a sticky bit, and then rounded
(R421); the other operations are rounded from their exact results. -/

namespace Sys2Proof.Machine

/-! ### Division -/

/-- A quotient cut to an integer. -/
theorem cutTo_div {a b : Nat} (hb : 0 < b) (e : Int) : CutTo ((a : Real) / b * 2 ^ e) (a / b) (a % b != 0) e := by
  have hunit : (0 : Real) < 2 ^ e := zpow_pos two_pos e
  have hb' : (0 : Real) < b := Nat.cast_pos.2 hb
  refine ⟨fun hexact => ?_, fun hdropped => ⟨?_, ?_⟩⟩
  · rw [Nat.cast_div_charZero (Nat.dvd_of_mod_eq_zero (by simpa using hexact))]
  · have hrem : 0 < a % b := Nat.pos_of_ne_zero (by simpa using hdropped)
    have hlt : a / b * b < a := by
      have := Nat.div_add_mod' a b
      omega
    exact mul_lt_mul_of_pos_right ((lt_div_iff₀ hb').2 (by exact_mod_cast hlt)) hunit
  · have hlt : a < (a / b + 1) * b := (Nat.div_lt_iff_lt_mul hb).1 (Nat.lt_succ_self _)
    exact mul_lt_mul_of_pos_right ((div_lt_iff₀ hb').2 (by exact_mod_cast hlt)) hunit

/-- How many bits a quotient is cut to beyond its operands' (FDIV). -/
def Fmt.quotientBits (m : Fmt) : Nat := 2 * m.fracBits + 8

section
variable {m : Fmt} {mode : Rounding} {a b : FWord} {na nb : Bool} {ma mb : Nat} {ea eb : Int}

theorem Fmt.div_zero_finite (hmb : mb ≠ 0) (ha : m.unpack a = .finite na 0 ea) (hb : m.unpack b = .finite nb mb eb) :
    m.div mode a b = (m.zero (na != nb), noFlags) := by
  simp only [Fmt.div, ha, hb, if_neg hmb, if_true]

theorem Fmt.div_finite (hma : ma ≠ 0) (hmb : mb ≠ 0) (ha : m.unpack a = .finite na ma ea)
    (hb : m.unpack b = .finite nb mb eb) :
    m.div mode a b = m.round mode (na != nb) (jam (ma * 2 ^ m.quotientBits / mb) (ma * 2 ^ m.quotientBits % mb != 0))
      (ea - eb - m.quotientBits - 1) := by
  simp only [Fmt.div, ha, hb, if_neg hma, if_neg hmb, Fmt.quotientBits]

theorem Fmt.mant_lt {v : FWord} (h : m.unpack v = .finite na ma ea) : ma < 2 ^ (m.fracBits + 1) := by
  obtain ⟨-, rfl, -⟩ := Fmt.unpack_eq_finite h
  exact m.significand_lt _

/-- The quotient keeps a significand's bits and more. -/
theorem Fmt.two_pow_le_quotient (hma : ma ≠ 0) (hmb : mb ≠ 0) (hb : m.unpack b = .finite nb mb eb) :
    2 ^ (m.fracBits + 1) ≤ ma * 2 ^ m.quotientBits / mb := by
  rw [Nat.le_div_iff_mul_le (Nat.pos_of_ne_zero hmb)]
  calc 2 ^ (m.fracBits + 1) * mb ≤ 2 ^ (m.fracBits + 1) * 2 ^ (m.fracBits + 1) :=
        Nat.mul_le_mul_left _ (Fmt.mant_lt hb).le
    _ ≤ 2 ^ m.quotientBits := by
        rw [← pow_add, Fmt.quotientBits]
        exact Nat.pow_le_pow_right (by decide) (by omega)
    _ ≤ ma * 2 ^ m.quotientBits := Nat.le_mul_of_pos_left _ (Nat.pos_of_ne_zero hma)

/-- The quotient of two finite values, as the integers that are divided. -/
theorem toRat_div_toRat (k : Nat) : (((FVal.finite na ma ea).toRat / (FVal.finite nb mb eb).toRat : Rat) : Real) =
    signFactor (na != nb) * (((ma * 2 ^ k : Nat) : Real) / mb * 2 ^ (ea - eb - k)) := by
  have hk : (2 : Real) ^ (ea - eb - k) = 2 ^ ea / 2 ^ eb / 2 ^ k := by
    rw [zpow_sub₀ two_ne_zero, zpow_sub₀ two_ne_zero, zpow_natCast]
  have hpow : (2 : Real) ^ k ≠ 0 := by positivity
  have hsign : ((if na then -1 else 1) / (if nb then -1 else 1) : Real) = ((signFactor (na != nb) : Rat) : Real) := by
    cases na <;> cases nb <;> norm_num [signFactor]
  have value (n : Bool) (k : Nat) (e : Int) :
      ((FVal.finite n k e).toRat : Real) = (if n then -1 else 1) * k * 2 ^ e := by
    cases n <;> simp [FVal.toRat]
  rw [Rat.cast_div, value, value, ← hsign, hk]
  push_cast
  field_simp

theorem Fmt.div_correctlyRounded (hmb : mb ≠ 0) (ha : m.unpack a = .finite na ma ea)
    (hb : m.unpack b = .finite nb mb eb) :
    m.CorrectlyRounded mode ((m.unpack a).toRat / (m.unpack b).toRat) (na ≠ nb) (m.div mode a b) := by
  rcases eq_or_ne ma 0 with rfl | hma
  · rw [Fmt.div_zero_finite hmb ha hb]
    exact Fmt.correctlyRounded_zero (by rw [ha, FVal.toRat_zero, zero_div]) bne_iff_ne
  · rw [Fmt.div_finite hma hmb ha hb, ha, hb]
    refine ⟨fun hx => absurd hx (div_ne_zero (toRat_finite_ne_zero hma) (toRat_finite_ne_zero hmb)), fun _ => ?_⟩
    rw [toRat_div_toRat m.quotientBits]
    exact Fmt.rounds_round_jam (cutTo_div (Nat.pos_of_ne_zero hmb) _) (Fmt.two_pow_le_quotient hma hmb hb)

/-- Division by zero raises a flag: NV for zero, DZ for any other number. -/
theorem Fmt.div_zero_flags (ha : m.unpack a = .finite na ma ea) (hb : m.unpack b = .finite nb 0 eb) :
    (m.div mode a b).2 ≠ noFlags := by
  rcases eq_or_ne ma 0 with rfl | hma
  · rw [Fmt.div_zero_zero ⟨na, ea, ha⟩ ⟨nb, eb, hb⟩]
    exact show flagNV ≠ noFlags by decide
  · rw [Fmt.div_by_zero hma ha hb]
    exact show flagDZ ≠ noFlags by decide

end

/-! ### Square root -/

/-- The bits that are tried leave the integer square root. -/
theorem sqrtFrom_spec (n k : Nat) : ∀ r, r * r ≤ n → n < (r + 2 ^ k) * (r + 2 ^ k) →
    sqrtFrom n k r * sqrtFrom n k r ≤ n ∧ n < (sqrtFrom n k r + 1) * (sqrtFrom n k r + 1) := by
  induction k with
  | zero => exact fun r hle hlt => ⟨hle, hlt⟩
  | succ k ih =>
    intro r hle hlt
    rw [sqrtFrom]
    split
    · next hfits =>
      refine ih _ hfits ?_
      rwa [Nat.add_assoc, ← Nat.two_mul, ← pow_succ']
    · next hover => exact ih r hle (not_le.1 hover)

/-- A square root cut to an integer. -/
theorem cutTo_sqrt {n r : Nat} (hle : r * r ≤ n) (hlt : n < (r + 1) * (r + 1)) (e : Int) :
    CutTo (Real.sqrt n * 2 ^ e) r (r * r != n) e := by
  have hunit : (0 : Real) < 2 ^ e := zpow_pos two_pos e
  have hr : (0 : Real) ≤ r := Nat.cast_nonneg r
  refine ⟨fun hexact => ?_, fun hdropped => ⟨?_, ?_⟩⟩
  · have hn : r * r = n := by simpa using hexact
    rw [← hn, Nat.cast_mul, Real.sqrt_mul_self hr]
  · have hne : r * r ≠ n := by simpa using hdropped
    have hsq : (r : Real) ^ 2 < n := by
      rw [sq]
      exact_mod_cast lt_of_le_of_ne hle hne
    exact mul_lt_mul_of_pos_right ((Real.lt_sqrt hr).2 hsq) hunit
  · have hsq : (n : Real) < (r + 1) ^ 2 := by
      rw [sq]
      exact_mod_cast hlt
    exact mul_lt_mul_of_pos_right ((Real.sqrt_lt' (by positivity)).2 hsq) hunit

/-- How many bits a square root's operand is shifted, to leave an even exponent (FSQRT). -/
def Fmt.rootShift (m : Fmt) (exp : Int) : Nat := 2 * m.fracBits + 8 + (exp % 2).toNat

/-- The integer whose root is taken. -/
def Fmt.radicand (m : Fmt) (mant : Nat) (exp : Int) : Nat := mant * 2 ^ m.rootShift exp

/-- Its integer square root. -/
def Fmt.root (m : Fmt) (mant : Nat) (exp : Int) : Nat := sqrtFrom (m.radicand mant exp) (2 * m.fracBits + 8) 0

section
variable {m : Fmt} {mode : Rounding} {a : FWord} {neg : Bool} {mant : Nat} {exp : Int}

theorem Fmt.sqrt_positive (hmant : mant ≠ 0) (h : m.unpack a = .finite false mant exp) :
    m.sqrt mode a = m.round mode false
      (jam (m.root mant exp) (m.root mant exp * m.root mant exp != m.radicand mant exp)) ((exp - m.rootShift exp) / 2 - 1) := by
  simp only [Fmt.sqrt, h, if_neg hmant]
  rfl

theorem Fmt.root_spec (h : mant < 2 ^ (m.fracBits + 1)) :
    m.root mant exp * m.root mant exp ≤ m.radicand mant exp ∧
      m.radicand mant exp < (m.root mant exp + 1) * (m.root mant exp + 1) := by
  refine sqrtFrom_spec _ _ 0 (Nat.zero_le _) ?_
  rw [Nat.zero_add, ← pow_add]
  calc mant * 2 ^ m.rootShift exp < 2 ^ (m.fracBits + 1) * 2 ^ m.rootShift exp :=
        Nat.mul_lt_mul_of_pos_right h (Nat.two_pow_pos _)
    _ ≤ 2 ^ (2 * m.fracBits + 8 + (2 * m.fracBits + 8)) := by
        rw [← pow_add, Fmt.rootShift]
        exact Nat.pow_le_pow_right (by decide) (by omega)

/-- The root keeps a significand's bits and more. -/
theorem Fmt.two_pow_le_root (hmant : mant ≠ 0) (h : mant < 2 ^ (m.fracBits + 1)) :
    2 ^ (m.fracBits + 1) ≤ m.root mant exp := by
  by_contra hsmall
  have hroot : m.root mant exp + 1 ≤ 2 ^ (m.fracBits + 1) := by omega
  refine (Fmt.root_spec (exp := exp) h).2.not_ge ?_
  calc (m.root mant exp + 1) * (m.root mant exp + 1) ≤ 2 ^ (m.fracBits + 1) * 2 ^ (m.fracBits + 1) :=
        Nat.mul_le_mul hroot hroot
    _ ≤ 2 ^ m.rootShift exp := by
        rw [← pow_add, Fmt.rootShift]
        exact Nat.pow_le_pow_right (by decide) (by omega)
    _ ≤ m.radicand mant exp := Nat.le_mul_of_pos_left _ (Nat.pos_of_ne_zero hmant)

/-- The root of a finite value, by the integer whose root is taken. -/
theorem sqrt_toRat_finite (m : Fmt) (mant : Nat) (exp : Int) :
    Real.sqrt ((FVal.finite false mant exp).toRat : Real) =
      Real.sqrt (m.radicand mant exp) * 2 ^ ((exp - m.rootShift exp) / 2) := by
  have heven : exp = m.rootShift exp + ((exp - m.rootShift exp) / 2 + (exp - m.rootShift exp) / 2) := by
    rw [Fmt.rootShift]
    omega
  have value : ((FVal.finite false mant exp).toRat : Real) =
      m.radicand mant exp * ((2 : Real) ^ ((exp - m.rootShift exp) / 2)) ^ 2 := by
    rw [sq, ← zpow_add₀ two_ne_zero, Fmt.radicand, Nat.cast_mul, Nat.cast_pow, Nat.cast_ofNat, mul_assoc,
      ← zpow_natCast, ← zpow_add₀ two_ne_zero, ← heven]
    simp [FVal.toRat]
  rw [value, Real.sqrt_mul (Nat.cast_nonneg _), Real.sqrt_sq (zpow_pos two_pos _).le]

theorem Fmt.sqrt_rounds (hmant : mant ≠ 0) (h : m.unpack a = .finite false mant exp) :
    m.rounds mode (Real.sqrt ((m.unpack a).toRat : Real)) (m.sqrt mode a) := by
  have hlt := Fmt.mant_lt h
  obtain ⟨hle, hgt⟩ := Fmt.root_spec (exp := exp) hlt
  have rounds := Fmt.rounds_round_jam (mode := mode) (neg := false)
    (cutTo_sqrt hle hgt ((exp - m.rootShift exp) / 2)) (Fmt.two_pow_le_root hmant hlt)
  rw [Fmt.sqrt_positive hmant h, h, sqrt_toRat_finite m]
  simpa [signFactor] using rounds

/-- A root that raises no flag is exact. -/
theorem Fmt.sqrt_exact (h : m.unpack a = .finite neg mant exp) (hflags : (m.sqrt mode a).2 = noFlags) :
    (∃ n k e, m.unpack (m.sqrt mode a).1 = .finite n k e) ∧ 0 ≤ (m.unpack (m.sqrt mode a).1).toRat ∧
      (m.unpack (m.sqrt mode a).1).toRat ^ 2 = (m.unpack a).toRat := by
  rcases eq_or_ne mant 0 with rfl | hmant
  · obtain ⟨-, n, e, hunpack, -⟩ := m.givesZero_zero neg
    rw [Fmt.sqrt_zero h, hunpack, h, FVal.toRat_zero, FVal.toRat_zero]
    exact ⟨⟨_, _, _, rfl⟩, le_rfl, zero_pow two_ne_zero⟩
  cases neg with
  | true =>
    rw [Fmt.sqrt_negative hmant h] at hflags
    exact absurd hflags (show flagNV ≠ noFlags by decide)
  | false =>
    obtain ⟨n, k, e, hunpack, -, hvalue⟩ := Fmt.standsFor_of_rounds (Fmt.sqrt_rounds hmant h) hflags
    have hpos : (0 : Real) ≤ (m.unpack a).toRat := by
      rw [h]
      exact_mod_cast ((toRat_finite_pos_iff hmant).2 rfl).le
    have hsq : ((FVal.finite n k e).toRat : Real) ^ 2 = (m.unpack a).toRat := by rw [hvalue, Real.sq_sqrt hpos]
    have hnonneg : (0 : Real) ≤ (FVal.finite n k e).toRat := hvalue ▸ Real.sqrt_nonneg _
    rw [hunpack]
    exact ⟨⟨_, _, _, rfl⟩, by exact_mod_cast hnonneg, by exact_mod_cast hsq⟩

end

/-- Settles O49: each operation is correctly rounded, and a rounding that raises no flag is exact. -/
theorem unflaggedArithmeticIsExact : Obligations.UnflaggedArithmeticIsExact := by
  unfold Obligations.UnflaggedArithmeticIsExact
  intro m mode a b c na nb nc ma mb mc ea eb ec va vb vc ha hb hc exactly rounded minus
  have hadd := Fmt.add_correctlyRounded (mode := mode) ha hb
  have hsub := Fmt.sub_correctlyRounded (mode := mode) ha hb
  have hmul := Fmt.mul_correctlyRounded (mode := mode) ha hb
  have hfma (n1 n2 : Bool) := Fmt.fma_correctlyRounded (mode := mode) n1 n2 ha hb hc
  have fused (n1 n2 : Bool) {x : Rat}
      (hx : signFactor n1 * (va.toRat * vb.toRat) + signFactor n2 * vc.toRat = x) :
      exactly (m.fma mode n1 n2 a b c) x := hx ▸ (hfma n1 n2).exact
  have hzero : va.toRat = 0 ↔ ma = 0 := by rw [ha]; exact toRat_finite_eq_zero_iff
  have hzero' : vb.toRat = 0 ↔ mb = 0 := by rw [hb]; exact toRat_finite_eq_zero_iff
  refine ⟨hadd.exact, hsub.exact, hmul.exact, fused _ _ ?fmadd, fused _ _ ?fmsub, fused _ _ ?fnmsub,
    fused _ _ ?fnmadd,
    fun hflags => ?_, Fmt.sqrt_exact ha, ⟨hadd.rounds, hsub.rounds, hmul.rounds, fun hx => ?_, fun hpos => ?_⟩,
    hadd.zero, hsub.zero, hmul.zero, fun hx hy => ?_, fun hx => ?_, fun n1 n2 => (hfma n1 n2).zero⟩
  case fmadd | fmsub | fnmsub | fnmadd =>
    simp only [signFactor, if_true, if_neg Bool.false_ne_true]
    ring
  · have hmb : mb ≠ 0 := by
      rintro rfl
      exact Fmt.div_zero_flags ha hb hflags
    obtain ⟨finite, value⟩ := (Fmt.div_correctlyRounded hmb ha hb).exact hflags
    exact ⟨finite, by rw [value]; exact div_mul_cancel₀ _ (mt hzero'.1 hmb)⟩
  · have hmb : mb ≠ 0 := by
      rintro rfl
      exact hx (by rw [hzero'.2 rfl, div_zero])
    exact (Fmt.div_correctlyRounded hmb ha hb).rounds hx
  · have hmant : ma ≠ 0 := mt hzero.2 hpos.ne'
    have hna : na = false := (toRat_finite_pos_iff hmant).1 (ha ▸ hpos)
    exact Fmt.sqrt_rounds hmant (hna ▸ ha)
  · exact (Fmt.div_correctlyRounded (mt hzero'.2 hy) ha hb).zero (by rw [hx, zero_div])
  · obtain rfl := hzero.1 hx
    rw [Fmt.sqrt_zero ha]
    exact m.givesZero_zero na

end Sys2Proof.Machine
end

section
/-! The proof of O9: an encoding decodes to nothing where its bits are those of no row, or where the columns of the
row they are of do not hold (R100), the `on_card` column among them (R132). -/

namespace Sys2Proof.Machine

section
variable {c : Config} {e : Encoded} {i : Instr}

/-! ### Encodings that decode to nothing -/

/-- The only instruction an encoding can decode to is the one of its bits, where that is well-formed. -/
theorem decode_error_of_rawDecode (h : ∀ i, rawDecode c.xlen e = some i → i.wellFormed c = false) :
    ∃ err, decode c e = .error err := by
  cases hdecode : decode c e with
  | error err => exact ⟨err, rfl⟩
  | ok i =>
    obtain ⟨hraw, hwf⟩ := decode_eq_ok_iff.1 hdecode
    rw [h i hraw] at hwf
    cases hwf

/-- Bits 6:2 of the words that no row has: the reserved and custom major opcodes (R118), and those of the
encodings longer than 32 bits (R91). -/
def opcodesWithoutRows : List (BitVec 5) :=
  [0b00010#5, 0b00111#5, 0b01010#5, 0b01111#5, 0b10101#5, 0b10110#5, 0b10111#5, 0b11010#5, 0b11101#5, 0b11110#5,
    0b11111#5]

theorem rawDecode32_of_opcodesWithoutRows {w : BitVec 32} (h : w.extractLsb' 2 5 ∈ opcodesWithoutRows) :
    rawDecode32 w = none := by
  have major_opcode : (opcodeOf w).extractLsb' 2 5 ∈ opcodesWithoutRows := by
    rwa [opcodeOf, BitVec.extractLsb'_extractLsb'_of_le (by decide)]
  unfold rawDecode32
  split
  case h_22 => rfl
  all_goals
    rename_i hop
    rw [hop] at major_opcode
    exact absurd major_opcode (by decide)

/-- The all-zero parcel is C.ADDI4SPN with an immediate of zero, which its row excludes (R124). -/
theorem decode_zero_parcel (c : Config) : ∃ err, decode c (.half 0#16) = .error err := by
  refine decode_error_of_rawDecode fun i hraw => ?_
  cases hraw
  simp [Instr.wellFormed, Instr.row, ciwUimm, place]

/-! ### The card -/

/-- With `OFFCARD = off` the words of an instruction decode to nothing where its core instruction, which has the
same words, is off the card (R132). -/
theorem decode_error_of_offCard (hcard : (i.core.row c.xlen).onCard = false) (hwf : i.wellFormed c = true) :
    ∃ err, decode { c with offCard := .off } (encode i) = .error err := by
  have hraw : rawDecode c.xlen (encode i) = some i.core :=
    encode_core i ▸ rawDecode_encode i.core_core (Instr.wellFormed_core hwf)
  refine decode_error_of_rawDecode fun j hj => ?_
  obtain rfl : i.core = j := Option.some.inj (hraw.symm.trans hj)
  simp [Instr.wellFormed, hcard]

/-- C.NOP's word stays C.ADDI's, which is on the card (R280). -/
theorem decode_cNop (hc : c.ext.c = true) : decode c (encode .cNop) = .ok (.cAddi 0#5 0#6) := by
  have hwf : Instr.cNop.core.wellFormed c = true :=
    Instr.wellFormed_iff.2 ⟨rfl, List.forall_mem_singleton.2 hc, rfl, .inr rfl⟩
  have round_trip := decodeOfEncodeIsTheInstruction c _ hwf
  rwa [encode_core, Instr.core_core] at round_trip

end

/-- Settles O9: a fetched word that decodes to nothing is illegal, and which words do not decode. -/
theorem undecodableWordsAreIllegal : Obligations.UndecodableWordsAreIllegal := by
  unfold Obligations.UndecodableWordsAreIllegal
  refine ⟨fun s h err hcode hlow => step_of_fetch_error (State.fetch_half hcode hlow),
    fun s w err hcode hlow => step_of_fetch_error (State.fetch_word hcode hlow), decode_zero_parcel,
    fun c w hopcode _ => ?noRow, ?offCard⟩
  case noRow =>
    refine decode_error_of_rawDecode fun i hraw => ?_
    rw [rawDecode, rawDecode32_of_opcodesWithoutRows hopcode] at hraw
    cases hraw
  case offCard =>
    intro on rd rs1 rs2 r r' i12 csr z aq rl rm i6 sh u7 u8 u9 i10 _ off gone
    have off_card {i : Instr} (hcard : (i.core.row on.xlen).onCard = false) : gone i := decode_error_of_offCard hcard
    iterate 33 refine ⟨off_card rfl, ?_⟩
    exact decode_cNop (c := off)

end Sys2Proof.Machine
end

section
/-! The proofs of O25 and O40: the instructions that always raise (R502, R503), and the atomics, which test their
alignment whatever `MISALIGNED` is and then their access, as LR, SC or AMO (R64, R341 to R343). -/

namespace Sys2Proof.Machine

/-- Settles O25, instruction by instruction: the meaning of each is to raise its exception. -/
theorem callsAndBreakpointsEndTheRun : Obligations.CallsAndBreakpointsEndTheRun := by
  unfold Obligations.CallsAndBreakpointsEndTheRun
  exact fun s => ⟨rfl, rfl, rfl, rfl, rfl⟩

section
variable {s : State} {n : Nat}

/-- How an atomic of `n` bytes at `a` ends where a check fails: with `unaligned` whatever `MISALIGNED` is, else
with `denied` where one of its accesses is not permitted to a byte (R64, R505). -/
def State.AtomicTrapsInOrder (s : State) (a : Word) (unaligned denied : Fault) (accs : List Access) (n : Nat)
    (r : Res) : Prop :=
  (a.toNat % n ≠ 0 → r = .fault unaligned) ∧
    (a.toNat % n = 0 → (∃ acc ∈ accs, ∃ k, k < n ∧ s.allows acc (byteAddr s.cfg.xlen a k) = false) →
      r = .fault denied)

/-- Alignment tested before access is what `State.lr`, `State.sc` and `State.amo` open with. -/
theorem State.atomicTrapsInOrder_checks {rs1 : RegIdx} {accs : List Access} {allowed : Bool}
    (hallowed : allowed = true → ∀ acc ∈ accs, s.allowsAll acc (s.readX rs1) n = true)
    (unaligned denied : Fault) (r : Res) :
    s.AtomicTrapsInOrder (s.readX rs1) unaligned denied accs n
      (if misaligned s.cfg.xlen (s.readX rs1) n then raise unaligned else if allowed then r else raise denied) := by
  constructor
  · intro hunaligned
    exact if_pos ((s.misaligned_readX rs1 n).2 hunaligned)
  · rintro haligned ⟨acc, hacc, hdenied⟩
    have not_misaligned : ¬ misaligned s.cfg.xlen (s.readX rs1) n = true :=
      fun h => (s.misaligned_readX rs1 n).1 h haligned
    have not_allowed : ¬ allowed = true := fun h => State.not_allowsAll hdenied (hallowed h acc hacc)
    rw [if_neg not_misaligned, if_neg not_allowed]
    rfl

variable {i : Instr} {w : Nat} {rd rs1 rs2 : RegIdx}

/-- An instruction that is an LR (R342). -/
theorem lr_trapsInOrder (h : exec i s = s.lr w rd rs1) :
    s.AtomicTrapsInOrder (s.readX rs1) (.loadAddressMisaligned (s.readX rs1)) (.loadAccessFault (s.readX rs1))
      [.read] (w / 8) (exec i s) := by
  rw [h]
  exact State.atomicTrapsInOrder_checks (fun reads => List.forall_mem_singleton.2 reads) _ _ _

/-- An instruction that is an SC (R343). -/
theorem sc_trapsInOrder (h : exec i s = s.sc w rd rs1 rs2) :
    s.AtomicTrapsInOrder (s.readX rs1) (.storeAddressMisaligned (s.readX rs1)) (.storeAccessFault (s.readX rs1))
      [.write] (w / 8) (exec i s) := by
  rw [h]
  exact State.atomicTrapsInOrder_checks (fun writes => List.forall_mem_singleton.2 writes) _ _ _

/-- An instruction that is an AMO, which is to be permitted both to read and to write (R341). -/
theorem amo_trapsInOrder {op : BitVec w → BitVec w → BitVec w} (h : exec i s = s.amo w rd rs1 rs2 op) :
    s.AtomicTrapsInOrder (s.readX rs1) (.storeAddressMisaligned (s.readX rs1)) (.storeAccessFault (s.readX rs1))
      [.read, .write] (w / 8) (exec i s) := by
  rw [h]
  refine State.atomicTrapsInOrder_checks (fun both => ?_) _ _ _
  obtain ⟨reads, writes⟩ := Bool.and_eq_true_iff.1 both
  exact List.forall_mem_cons.2 ⟨reads, List.forall_mem_singleton.2 writes⟩

end

/-- Settles O40: each atomic is an LR, an SC or an AMO of 32 or 64 bits. -/
theorem atomicsTrapWhateverTheMisalignedMode : Obligations.AtomicsTrapWhateverTheMisalignedMode := by
  unfold Obligations.AtomicsTrapWhateverTheMisalignedMode
  intro s rd rs1 rs2 aq rl a denied traps lr sc amo
  have amo32 {i : Instr} (op : BitVec 32 → BitVec 32 → BitVec 32) (h : exec i s = s.amo 32 rd rs1 rs2 op) :
      amo i 4 := amo_trapsInOrder h
  have amo64 {i : Instr} (op : BitVec 64 → BitVec 64 → BitVec 64) (h : exec i s = s.amo 64 rd rs1 rs2 op) :
      amo i 8 := amo_trapsInOrder h
  exact ⟨lr_trapsInOrder (w := 32) rfl, lr_trapsInOrder (w := 64) rfl, sc_trapsInOrder (w := 32) rfl,
    sc_trapsInOrder (w := 64) rfl, amo32 (fun _ v => v) rfl, amo32 (· + ·) rfl, amo32 (· ^^^ ·) rfl,
    amo32 (· &&& ·) rfl, amo32 (· ||| ·) rfl, amo32 minSigned rfl, amo32 maxSigned rfl, amo32 minUnsigned rfl,
    amo32 maxUnsigned rfl, amo64 (fun _ v => v) rfl, amo64 (· + ·) rfl, amo64 (· ^^^ ·) rfl, amo64 (· &&& ·) rfl,
    amo64 (· ||| ·) rfl, amo64 minSigned rfl, amo64 maxSigned rfl, amo64 minUnsigned rfl, amo64 maxUnsigned rfl⟩

end Sys2Proof.Machine
end

section
/-! The proof of O1: what a launch answers by its parameters (R515), and what the state it starts from holds (R541). -/

namespace Sys2Proof.Machine

/-! ### The admitted parameters -/

theorem xtrunc_eq_self_iff {x : Xlen} {v : Word} : xtrunc x v = v ↔ v.toNat < 2 ^ x.bits := by
  rw [← BitVec.toNat_inj, xtrunc_toNat]
  exact Nat.mod_eq_iff_lt (Nat.two_pow_pos _).ne'

theorem two_pow_log2_eq_iff {n : Nat} : 2 ^ Nat.log2 n = n ↔ ∃ k, n = 2 ^ k := by
  constructor
  · intro h
    exact ⟨_, h.symm⟩
  · rintro ⟨k, rfl⟩
    rw [Nat.log2_two_pow]

/-- What `configAdmitted` tests, as the rules say it (R5, R60, R540, R9). -/
def ConfigAdmitted (c : Config) : Prop :=
  (c.ext.d = true → c.ext.f = true) ∧ (c.ext.q = true → c.ext.d = true) ∧
    (∀ r ∈ c.memMap, r.base + r.size ≤ 2 ^ c.xlen.bits) ∧ c.resetPc.toNat < 2 ^ c.xlen.bits ∧
    c.resetPc.toNat % c.ialignBytes = 0 ∧ ∃ k, c.resGran = 2 ^ k

theorem configAdmitted_iff {c : Config} : configAdmitted c = true ↔ ConfigAdmitted c := by
  have closed_iff :
      c.ext.closed = true ↔ (c.ext.d = true → c.ext.f = true) ∧ (c.ext.q = true → c.ext.d = true) := by
    simp [ExtSet.closed, imp_iff_not_or]
  simp [configAdmitted, ConfigAdmitted, closed_iff, regionFits, xtrunc_eq_self_iff, two_pow_log2_eq_iff, and_assoc]

/-! ### What a launch answers -/

theorem xlenOf_bits (x : Xlen) : xlenOf x.bits = some x := by cases x <;> rfl

theorem exists_bits_of_width {n : Nat} (h : n = 32 ∨ n = 64) : ∃ x : Xlen, n = x.bits :=
  h.elim (fun h32 => ⟨.rv32, h32⟩) (fun h64 => ⟨.rv64, h64⟩)

section
variable {l : Launch} {x : Xlen}

theorem Launch.start_of_otherWidth (h32 : l.xlenBits ≠ 32) (h64 : l.xlenBits ≠ 64) :
    l.start = .refused (.unsupported "XLEN") := by
  simp [Launch.start, xlenOf, h32, h64]

theorem Launch.start_of_otherHarts (hx : l.xlenBits = x.bits) (hn : l.nHarts ≠ 1) :
    l.start = .refused (.unsupported "NHARTS") := by
  simp [Launch.start, hx, xlenOf_bits, hn]

theorem Launch.start_of_baseE (hx : l.xlenBits = x.bits) (hn : l.nHarts = 1) (he : l.baseE = true) :
    l.start = .refused (.unsupported "E") := by
  simp [Launch.start, hx, xlenOf_bits, hn, he]

theorem Launch.start_of_future {letter : FutureLetter} {rest : List FutureLetter} (hx : l.xlenBits = x.bits)
    (hn : l.nHarts = 1) (he : l.baseE = false) (hf : l.future = letter :: rest) :
    l.start = .refused (.unsupported letter.name) := by
  simp [Launch.start, hx, xlenOf_bits, hn, he, hf]

/-- A launch that asks for nothing outside R9 starts where its parameters are admitted. -/
theorem Launch.start_of_parameters (hx : l.xlenBits = x.bits) (hn : l.nHarts = 1) (he : l.baseE = false)
    (hf : l.future = []) :
    l.start = if configAdmitted { l.cfg with xlen := x } then .next (l.state { l.cfg with xlen := x })
      else .refused (.unsupported "parameters") := by
  simp [Launch.start, hx, xlenOf_bits, hn, he, hf]

end

/-! ### The state a run starts from -/

theorem Launch.readX_state (l : Launch) (c : Config) {r : RegIdx} (hr : r ≠ 0#5) :
    (l.state c).readX r = xtrunc c.xlen (l.x[r.toNat]'r.isLt) := by
  have other : 0 ≠ r.toNat := fun h => hr (BitVec.eq_of_toNat_eq h.symm)
  simp [State.readX, Launch.state, hr, Vector.getElem_set_ne, other]

theorem Launch.readF_state (l : Launch) (c : Config) (r : RegIdx) :
    (l.state c).readF r = ftrunc c.flen (l.f[r.toNat]'r.isLt) := by
  simp [State.readF, Launch.state]

theorem imageMemory_wf (x : Xlen) (image : List Host.Cell) : (imageMemory x image).wf = true := by
  induction image with
  | nil => rfl
  | cons cell rest ih => exact Memory.wf_write ih _ _

/-- The first byte listed for an address is the one placed last, so the one that stays. -/
theorem read_imageMemory (x : Xlen) (image : List Host.Cell) (a : Nat) :
    (imageMemory x image).read a = ((image.find? fun cell => cell.1 % 2 ^ x.bits == a).map (·.2)).getD 0#8 := by
  induction image with
  | nil => rfl
  | cons cell rest ih =>
    rw [imageMemory]
    by_cases here : cell.1 % 2 ^ x.bits = a
    · rw [List.find?_cons, beq_iff_eq.2 here, here]
      exact Memory.read_write_same (imageMemory_wf x rest) a cell.2
    · rw [List.find?_cons, beq_eq_false_iff_ne.2 here, Memory.read_write_other (Ne.symm here), ih]

/-- Settles O1: the state of an admitted launch, clause by clause, then the refusals in the order of the tests. -/
theorem launchStateIsAsSupplied : Obligations.LaunchStateIsAsSupplied := by
  unfold Obligations.LaunchStateIsAsSupplied
  intro l
  refine ⟨fun t hstart => ?_, fun x hx hn he hf => ?_, Launch.start_of_otherWidth, fun hwidth hn => ?_,
    fun hwidth hn he => ?_, fun hwidth hn he hf => ?_⟩
  · obtain ⟨x, -, -, -, -, hadmitted, rfl⟩ := Launch.start_next hstart
    obtain ⟨-, -, -, pc_lt, pc_aligned, -⟩ := configAdmitted_iff.1 hadmitted
    exact ⟨rfl, pc_lt, pc_aligned, State.readX_zero _, fun r hr => l.readX_state _ hr, l.readF_state _, rfl, rfl,
      read_imageMemory x l.image, rfl, rfl⟩
  · intro c admitted
    have admitted_iff : configAdmitted c = true ↔ admitted := configAdmitted_iff
    rw [Launch.start_of_parameters hx hn he hf]
    exact ⟨fun h => ⟨_, if_pos (admitted_iff.2 h), rfl⟩, fun h => if_neg (mt admitted_iff.1 h)⟩
  · obtain ⟨x, hx⟩ := exists_bits_of_width hwidth
    exact Launch.start_of_otherHarts hx hn
  · obtain ⟨x, hx⟩ := exists_bits_of_width hwidth
    exact Launch.start_of_baseE hx hn he
  · obtain ⟨x, hx⟩ := exists_bits_of_width hwidth
    obtain ⟨letter, rest, hcons⟩ := List.exists_cons_of_ne_nil hf
    exact ⟨letter, hcons ▸ List.mem_cons_self, Launch.start_of_future hx hn he hcons⟩

end Sys2Proof.Machine
end
